-- ==== Sys2Proof/Word.lean ====
section
/-!
DEFINITION. The words of the TDMX: bytes (ROM entries, digit values), 16-bit operands and counters, and 32-bit
command words (R9, R62). The TDMX has no byte order and no alignment (R49, R50), so no wider access is built here.
-/
namespace Sys2Proof

/-- A byte: a ROM entry, a digit value, the LED bitfield, the segment outputs. -/
abbrev Byte := BitVec 8

/-- A 16-bit value: `PERIOD`, `TCNT`, the `DATA` field, the status word. -/
abbrev Half := BitVec 16

/-- A 32-bit command word (R61). -/
abbrev Word := BitVec 32

end Sys2Proof
end

