-- ==== Sys2Proof/Config.lean ====
section
/-!
DEFINITION. What an instance is built from and what the spec leaves open: the variant and the parameter record of
R6, the names of modes, fault causes and pin values, the agents' steps, and the free values. The values of the
defaulted parameters stand in Machine/Params.lean.
-/
namespace Sys2Proof

/-- `VARIANT` (R2): an instance is exactly one of the two. -/
inductive Variant where
  | charlie
  | ssd
  deriving DecidableEq, Repr

/-- A physical level of an output pin (R11, R12). -/
inductive Level where
  | low
  | high
  deriving DecidableEq, Repr, Inhabited

/-- The value of a CHARLIE pin (R11): high impedance, driven high, driven low. -/
inductive Pin where
  | Z
  | H
  | L
  deriving DecidableEq, Repr

/-- The three output pins `PIN[0]`, `PIN[1]`, `PIN[2]` (R34). -/
structure Pins where
  p0 : Pin
  p1 : Pin
  p2 : Pin
  deriving DecidableEq, Repr

/-- One entry of the output trace (R36): the pins of a CHARLIE instance, or `(SEG, DIG)` of an SSD instance. -/
inductive OutVec where
  | charlie (pins : Pins)
  | ssd (seg : Byte) (dig : BitVec 4)
  deriving DecidableEq, Repr

/-- `MODE` (R23). The value 3 is never held, so it has no constructor. -/
inductive Mode where
  | idle
  | running
  | faulted
  deriving DecidableEq, Repr

/-- `CAUSE` (R30, R127). The values 7 to 15 are never held, so they have no constructor. -/
inductive Cause where
  | none
  | illegalOpcode
  | reservedBits
  | variantMismatch
  | badIndex
  | configError
  | cfgLocked
  deriving DecidableEq, Repr

/-- One step of one of the four agents (R7): a command word delivered by HOST, a `TCLK` edge of TIMER, ENGINE's
`TICK`, or RESET's power-on step. -/
inductive AgentStep where
  | host (w : Word)
  | timer
  | engine
  | reset
  deriving DecidableEq, Repr, Inhabited

/-- The elaboration parameters of an instance (R6, R39). They are fixed for the life of the instance: no step
changes them. `F_TCLK_HZ` is not here, since no rule of the machine depends on a time in seconds (R161); the OPEN
levels and `HOST_BASE` are constants of `Config`. -/
structure Params where
  variant : Variant
  nslots : Nat
  glyphRom : Vector Byte 10
  charlieMap : Vector Byte 6
  ssdValReset : Byte
  deriving DecidableEq, Repr

/-- The free value of the model (R7, R55, R138): which agent's step comes next where `State.agenda` does not say,
one fresh choice per draw. It has no body, so nothing can be proved of it: a claim holds for every interleaving.
Assumption log 1. -/
opaque Config.schedule : Nat → AgentStep

/-- OPEN parameter (R12, R102): the physical level of a lit segment. Assumption log 10. -/
opaque Config.segOnLevel : Level

/-- OPEN parameter (R12, R102): the physical level of an enabled digit. Assumption log 10. -/
opaque Config.digOnLevel : Level

/-- OPEN parameter (R53, R143): where the two ports sit in the host's address space. No rule reads it. Assumption
log 10. -/
opaque Config.hostBase : Nat

end Sys2Proof
end

