-- ==== Sys2Proof/Syntax.lean ====
section
/-!
DEFINITION. The host commands (R14, R68): one constructor per row of the opcode table. Operands are the fields of
the command word themselves, read unsigned (R67); a slot index is the whole 8-bit `IDX`, so that an index out of
range, which faults with `BAD_INDEX`, is an instruction too.
-/
namespace Sys2Proof

/-- A host command (R115 to R122). -/
inductive Instr where
  /-- `NOP` (R115). -/
  | nop
  /-- `CFGPER #p` (R116). -/
  | cfgper (p : Half)
  /-- `START` (R117). -/
  | start
  /-- `TIE #b` (R118). -/
  | tie (b : Bool)
  /-- `SETPAT s, #b`, CHARLIE only (R119). -/
  | setpat (s : Byte) (b : Bool)
  /-- `SETMASK #m`, CHARLIE only (R120). -/
  | setmask (m : Byte)
  /-- `SETDIG s, #v`, SSD only (R121). -/
  | setdig (s : Byte) (v : Byte)
  /-- `SETDP s, #b`, SSD only (R122). -/
  | setdp (s : Byte) (b : Bool)
  deriving DecidableEq, Repr

end Sys2Proof
end

