-- ==== Sys2Proof/Decode.lean ====
section
/-!
DEFINITION. Decoding a command word, and the encoder (R61 to R73). `decodeFor` makes the checks of R69 in R69's
order for one variant; `decode` is the variant-independent part (opcode and reserved bits), since VARIANT does not
change how fields are decoded (R73).
-/
namespace Sys2Proof

/-- The eight mapped opcodes (R68). -/
inductive Opcode where
  | nop
  | cfgper
  | start
  | tie
  | setpat
  | setmask
  | setdig
  | setdp
  deriving DecidableEq, Repr

/-- `NSLOTS` of a variant (R2). -/
def Variant.nslots : Variant → Nat
  | .charlie => 6
  | .ssd => 4

/-- The `OP` field, bits 31:24 (R62). -/
def opField (w : Word) : Byte := w.extractLsb' 24 8

/-- The `IDX` field, bits 23:16 (R62). -/
def idxField (w : Word) : Byte := w.extractLsb' 16 8

/-- The `DATA` field, bits 15:0 (R62). -/
def dataField (w : Word) : Half := w.extractLsb' 0 16

/-- The byte operand `v = DATA[7:0]` (R66, R67). -/
def byteOperand (w : Word) : Byte := w.extractLsb' 0 8

/-- The flag operand `b = DATA[0]` (R65, R67). -/
def flagOperand (w : Word) : Bool := w.getLsbD 0

/-- The `OP` value of each opcode (R68). -/
def Opcode.code : Opcode → Byte
  | .nop => 0x00#8
  | .cfgper => 0x01#8
  | .start => 0x02#8
  | .tie => 0x03#8
  | .setpat => 0x10#8
  | .setmask => 0x11#8
  | .setdig => 0x20#8
  | .setdp => 0x21#8

/-- The opcode map read backwards: `none` for the 248 illegal values (R70). -/
def Opcode.ofByte (b : Byte) : Option Opcode :=
  if b = 0x00#8 then some .nop
  else if b = 0x01#8 then some .cfgper
  else if b = 0x02#8 then some .start
  else if b = 0x03#8 then some .tie
  else if b = 0x10#8 then some .setpat
  else if b = 0x11#8 then some .setmask
  else if b = 0x20#8 then some .setdig
  else if b = 0x21#8 then some .setdp
  else none

/-- The `match` column of R68. -/
def Opcode.matchWord : Opcode → Word
  | .nop => 0x00000000#32
  | .cfgper => 0x01000000#32
  | .start => 0x02000000#32
  | .tie => 0x03000000#32
  | .setpat => 0x10000000#32
  | .setmask => 0x11000000#32
  | .setdig => 0x20000000#32
  | .setdp => 0x21000000#32

/-- The `mask` column of R68. The bits it covers outside `OP` are reserved-zero (R71). -/
def Opcode.maskWord : Opcode → Word
  | .nop => 0xFFFFFFFF#32
  | .cfgper => 0xFFFF0000#32
  | .start => 0xFFFFFFFF#32
  | .tie => 0xFFFFFFFE#32
  | .setpat => 0xFF00FFFE#32
  | .setmask => 0xFFFFFF00#32
  | .setdig => 0xFF00FF00#32
  | .setdp => 0xFF00FFFE#32

/-- The `variant` column of R68; `none` is "both". -/
def Opcode.variant : Opcode → Option Variant
  | .nop => none
  | .cfgper => none
  | .start => none
  | .tie => none
  | .setpat => some .charlie
  | .setmask => some .charlie
  | .setdig => some .ssd
  | .setdp => some .ssd

/-- Whether an opcode is legal in an instance of variant `v` (R69 step 2). -/
def Opcode.fits (op : Opcode) (v : Variant) : Bool :=
  match op.variant with
  | none => true
  | some u => u == v

/-- The commands whose `IDX` is a slot index (R69 step 4). -/
def Opcode.indexed : Opcode → Bool
  | .setpat => true
  | .setdig => true
  | .setdp => true
  | .nop => false
  | .cfgper => false
  | .start => false
  | .tie => false
  | .setmask => false

/-- Operand assembly (R63 to R67). -/
def Opcode.operands (w : Word) : Opcode → Instr
  | .nop => .nop
  | .cfgper => .cfgper (dataField w)
  | .start => .start
  | .tie => .tie (flagOperand w)
  | .setpat => .setpat (idxField w) (flagOperand w)
  | .setmask => .setmask (byteOperand w)
  | .setdig => .setdig (idxField w) (byteOperand w)
  | .setdp => .setdp (idxField w) (flagOperand w)

/-- The opcode and reserved-bit checks of R69 (steps 1 and 3), which do not depend on the variant. -/
def decode (w : Word) : Except Cause Instr :=
  match Opcode.ofByte (opField w) with
  | none => .error .illegalOpcode
  | some op =>
    if w &&& op.maskWord = op.matchWord then .ok (op.operands w) else .error .reservedBits

/-- Decoding in an instance of variant `v`: steps 1 to 4 of R69, the first failing check deciding the cause. -/
def decodeFor (v : Variant) (w : Word) : Except Cause Instr :=
  match Opcode.ofByte (opField w) with
  | none => .error .illegalOpcode
  | some op =>
    if op.fits v = false then .error .variantMismatch
    else if w &&& op.maskWord ≠ op.matchWord then .error .reservedBits
    else if op.indexed = true ∧ v.nslots ≤ (idxField w).toNat then .error .badIndex
    else .ok (op.operands w)

/-- The command word the opcode table's bit string of `nbits` bits stands for: 32 bits, the bits above `nbits`
zero. -/
def tableWord (nbits w : Nat) : Word := BitVec.ofNat 32 (w % 2 ^ nbits)

/-- What the decoder reads from a word given as the opcode table numbers it. Every command is one 32-bit unit with
no byte order (R49, R61), so the number is the word. -/
def decodeTableWord (nbits w : Nat) : Option Instr :=
  match decode (tableWord nbits w) with
  | .ok i => some i
  | .error _ => none

/-- A command word from its three fields (R62). -/
def packWord (op idx : Byte) (data : Half) : Word := op ++ idx ++ data

/-- `DATA` of format F: the flag in bit 0, the rest 0 (R65). -/
def flagData (b : Bool) : Half := if b then 1#16 else 0#16

/-- `DATA` of format B: the byte in bits 7:0, the rest 0 (R66). -/
def byteData (v : Byte) : Half := 0#8 ++ v

/-- The word of a command (R63 to R66, R68). -/
def encode : Instr → Word
  | .nop => packWord 0x00#8 0#8 0#16
  | .cfgper p => packWord 0x01#8 0#8 p
  | .start => packWord 0x02#8 0#8 0#16
  | .tie b => packWord 0x03#8 0#8 (flagData b)
  | .setpat s b => packWord 0x10#8 s (flagData b)
  | .setmask m => packWord 0x11#8 0#8 (byteData m)
  | .setdig s v => packWord 0x20#8 s (byteData v)
  | .setdp s b => packWord 0x21#8 s (flagData b)

end Sys2Proof
end

