-- ==== Sys2Proof/Machine/Params.lean ====
section
/-!
DEFINITION. The parameters' default values (R6, R95, R99) and the elaboration checks (R13, R100). An entry of
`CHARLIE_MAP` is read through the fields of R99.
-/
namespace Sys2Proof

/-- Field `pa` of a map entry, the driven pin A (R99). -/
def mapPa (e : Byte) : BitVec 2 := e.extractLsb' 0 2

/-- Field `pb` of a map entry, the driven pin B (R99). -/
def mapPb (e : Byte) : BitVec 2 := e.extractLsb' 2 2

/-- Field `pol` of a map entry: false drives A high and B low, true the other way (R99). -/
def mapPol (e : Byte) : Bool := e.getLsbD 4

/-- Field `pf` of a map entry, the floating pin (R99). -/
def mapPf (e : Byte) : BitVec 2 := e.extractLsb' 5 2

/-- The high pin of an entry (R100). -/
def mapHigh (e : Byte) : BitVec 2 := if mapPol e then mapPb e else mapPa e

/-- The low pin of an entry (R100). -/
def mapLow (e : Byte) : BitVec 2 := if mapPol e then mapPa e else mapPb e

/-- The condition of R100 on one entry: three distinct pins of 0..2, and bit 7 zero. -/
def mapEntryOk (e : Byte) : Bool :=
  decide ((mapPa e).toNat < 3) && decide ((mapPb e).toNat < 3) && decide ((mapPf e).toNat < 3) &&
  mapPa e != mapPb e && mapPa e != mapPf e && mapPb e != mapPf e && !e.getLsbD 7

/-- Well-formedness of `CHARLIE_MAP` (R100): every entry is, and the six (high, low) pairs are pairwise distinct. -/
def charlieMapOk (m : Vector Byte 6) : Bool :=
  m.toList.all mapEntryOk &&
    decide ((m.toList.map fun e => (mapHigh e, mapLow e)).Pairwise (· ≠ ·))

/-- Every glyph leaves bit 0 to the decimal point (R13, R95). -/
def glyphRomOk (g : Vector Byte 10) : Bool :=
  g.toList.all fun e => !e.getLsbD 0

/-- The elaboration checks of R13 on a parameter set. The check of `VARIANT` itself is `Variant.ofName`. -/
def Params.legal (p : Params) : Bool :=
  decide (p.nslots = p.variant.nslots) && charlieMapOk p.charlieMap && glyphRomOk p.glyphRom

/-- The default `GLYPH_ROM` (R95). Assumption log 7. -/
def defaultGlyphRom : Vector Byte 10 :=
  #v[0xFC#8, 0x60#8, 0xDA#8, 0xF2#8, 0x66#8, 0xB6#8, 0xBE#8, 0xE0#8, 0xFE#8, 0xF6#8]

/-- The default `CHARLIE_MAP` (R99). Assumption log 8. -/
def defaultCharlieMap : Vector Byte 6 :=
  #v[0x44#8, 0x54#8, 0x09#8, 0x19#8, 0x28#8, 0x38#8]

/-- The parameters of an instance of variant `v`, every other parameter at its default (R6). -/
def Params.default (v : Variant) : Params where
  variant := v
  nslots := v.nslots
  glyphRom := defaultGlyphRom
  charlieMap := defaultCharlieMap
  ssdValReset := 0x00#8

/-- The two values `VARIANT` may take, by name (R2, R13). -/
def Variant.ofName (name : String) : Option Variant :=
  if name = "CHARLIE" then some .charlie
  else if name = "SSD" then some .ssd
  else none

/-- The recommended period of each variant (R6, R112); no rule of the machine uses it. -/
def recommendedPeriod : Variant → Half
  | .charlie => 3000#16
  | .ssd => 7000#16

/-- All three pins high impedance: the neutral CHARLIE outputs (R81, R148). -/
def Pins.allZ : Pins := { p0 := .Z, p1 := .Z, p2 := .Z }

/-- The neutral output vector of a variant (R81, R148). -/
def OutVec.neutral : Variant → OutVec
  | .charlie => .charlie Pins.allZ
  | .ssd => .ssd 0x00#8 0b0000#4

end Sys2Proof
end

