-- ==== Sys2Proof/Machine/State.lean ====
section
/-!
DEFINITION. The state of a TDMX instance (R17), as plain data, and the state right after reset (R40, R148). The
registers of both variants stand side by side; those of the other variant exist in no such instance, keep their
reset values and are read by nothing (assumption log 5). The TDMX has no memory (R44, R48).
-/
namespace Sys2Proof.Machine

/-- The state of an instance. Register names are the spec's, in lower camel case. -/
structure State where
  /-- The elaboration parameters (R39): configuration, changed by no step. -/
  params : Params
  /-- The model's: RESET has been taken (R149). Assumption log 14. -/
  booted : Bool
  /-- The model's: the agents' steps already scheduled, the next one first (R7, R55). Assumption log 1. -/
  agenda : List AgentStep
  /-- The model's: how many choices have been drawn from `Config.schedule`. Assumption log 1. -/
  draws : Nat
  /-- `CHARLIE_VAL` (R19). -/
  charlieVal : Byte
  /-- `SSD_VAL[0..3]` (R20). -/
  ssdVal : Vector Byte 4
  /-- `SSD_DOT[0..3]` (R20). -/
  ssdDot : Vector Bool 4
  /-- `CURSOR` (R22). -/
  cursor : BitVec 3
  /-- `MODE` (R23). -/
  mode : Mode
  /-- `TIE` (R24). -/
  tie : Bool
  /-- `PERIOD` (R25). -/
  period : Half
  /-- `TCNT` (R26). -/
  tcnt : Half
  /-- `PEND` (R27). -/
  pend : Bool
  /-- `OVR` (R28). -/
  ovr : Bool
  /-- `FAULT` (R29). -/
  fault : Bool
  /-- `CAUSE` (R30). -/
  cause : Cause
  /-- `PIN[0..2]` (R34). -/
  pins : Pins
  /-- `SEG[7:0]` (R35). -/
  seg : Byte
  /-- `DIG[3:0]` (R35). -/
  dig : BitVec 4
  /-- The output trace (R36), oldest entry first. -/
  trace : List OutVec
  deriving DecidableEq, Repr

/-- What stops the model. The TDMX's own faults (R127) are no stop: they are recorded in `FAULT` and `CAUSE` and
the machine goes on (R129). No run from reset of a legal instance reaches one of these. -/
inductive Fault where
  /-- Raised by `step` in a state that breaks R41 (`CURSOR` out of range, or `CAUSE` and `FAULT` disagree): R41 says
  that a model must not give such a state a meaning. Safe. -/
  | illegalState
  /-- Raised by `TCLK` when RUNNING with `TCNT` not below `PERIOD`, which R43 excludes and R105 gives no count for.
  Safe. -/
  | timerRange
  /-- Raised by `TICK` on a ROM address that R45 says is not present in the instance. Safe. -/
  | romNotPresent
  /-- Raised by `TICK` on a map entry that names no pin of 0..2, which R13 refuses at elaboration. Safe. -/
  | mapEntry
  /-- Raised by the SSD `TICK` when `CURSOR` selects no digit position, which R22 excludes. Safe. -/
  | noPosition
  deriving DecidableEq, Repr

/-- What the model refuses. -/
inductive Refusal where
  /-- Raised by an arm of `exec` whose instruction has no meaning yet; no arm is left so. Safe. -/
  | notModelled (mnemonic : String)
  /-- Raised by `step` and by `elaborate` for parameters that fail the checks of R13: a refused instance has no
  steps. The only refusal the spec knows (R8). Safe. -/
  | illegalElaboration
  deriving DecidableEq, Repr

/-- The state right after RESET of an instance with parameters `p` (R40, R148). -/
def State.resetOf (p : Params) : State where
  params := p
  booted := true
  agenda := []
  draws := 0
  charlieVal := 0x00#8
  ssdVal := Vector.replicate 4 p.ssdValReset
  ssdDot := Vector.replicate 4 false
  cursor := 0#3
  mode := .idle
  tie := true
  period := 0#16
  tcnt := 0#16
  pend := false
  ovr := false
  fault := false
  cause := .none
  pins := Pins.allZ
  seg := 0x00#8
  dig := 0b0000#4
  trace := [OutVec.neutral p.variant]

/-- The machine right after reset. DESIGN CHOICE, assumption log 6: the instance is a CHARLIE one with the default
parameters; an SSD instance after reset is `State.resetOf (Params.default .ssd)`, and every claim quantifies over
the parameters. -/
def State.reset : State := State.resetOf (Params.default .charlie)

end Sys2Proof.Machine
end

