-- ==== Sys2Proof/Machine/Ops.lean ====
section
/-!
DEFINITION. The named operations over the state: register writes, recording a fault (R129), emitting an output
phase (R10, R36), reading the pattern ROM (R45), and taking the next agent's turn (R7, R55).
-/
namespace Sys2Proof.Machine

/-- The outcome of a step of this machine. -/
abbrev Result := Host.Outcome State Fault Refusal

def State.withMode (m : Mode) (s : State) : State := { s with mode := m }
def State.withTie (b : Bool) (s : State) : State := { s with tie := b }
def State.withPeriod (p : Half) (s : State) : State := { s with period := p }
def State.withTcnt (n : Half) (s : State) : State := { s with tcnt := n }
def State.withPend (b : Bool) (s : State) : State := { s with pend := b }
def State.withOvr (b : Bool) (s : State) : State := { s with ovr := b }
def State.withCursor (c : BitVec 3) (s : State) : State := { s with cursor := c }
def State.withCharlieVal (v : Byte) (s : State) : State := { s with charlieVal := v }
def State.withSsdVal (v : Vector Byte 4) (s : State) : State := { s with ssdVal := v }
def State.withSsdDot (v : Vector Bool 4) (s : State) : State := { s with ssdDot := v }
def State.withAgenda (a : List AgentStep) (s : State) : State := { s with agenda := a }
def State.withDraws (n : Nat) (s : State) : State := { s with draws := n }

/-- `raise Fault(c)` (R129): the first fault's cause is kept, `FAULT` is set, nothing else changes. It is the one
way the machine takes a fault; no handler, saved state or return exists (R131, R132). -/
def raiseFault (c : Cause) (s : State) : State :=
  { s with fault := true, cause := if s.fault then s.cause else c }

/-- A command ended by `raise Fault(c)`: the machine goes on (R8, R129). -/
def raise (c : Cause) (s : State) : Result := .next (raiseFault c s)

/-- The pins after an output vector is emitted. -/
def pinsAfter (old : Pins) : OutVec → Pins
  | .charlie p => p
  | .ssd _ _ => old

/-- The segment outputs after an output vector is emitted. -/
def segAfter (old : Byte) : OutVec → Byte
  | .charlie _ => old
  | .ssd seg _ => seg

/-- The digit enables after an output vector is emitted. -/
def digAfter (old : BitVec 4) : OutVec → BitVec 4
  | .charlie _ => old
  | .ssd _ dig => dig

/-- `emit PHASE(v)` (R10): `v` becomes the value of the output ports and the next entry of the output trace. -/
def emit (v : OutVec) (s : State) : State :=
  { s with
    pins := pinsAfter s.pins v
    seg := segAfter s.seg v
    dig := digAfter s.dig v
    trace := s.trace ++ [v] }

/-- The current output vector of the instance (R34, R35, R36). -/
def outputs (s : State) : OutVec :=
  match s.params.variant with
  | .charlie => .charlie s.pins
  | .ssd => .ssd s.seg s.dig

/-- `ROM_GLYPH` (R45). -/
def romGlyph : Byte := 0x00#8

/-- `ROM_CHARLIE` (R45). -/
def romCharlie : Byte := 0x10#8

/-- `MemRead(ROM, a, 1)` (R10, R45): `none` where the instance has no byte. An instance holds only the half of the
ROM its variant uses. Assumption log 16. -/
def memRead (p : Params) (a : Byte) : Option Byte :=
  match p.variant with
  | .ssd =>
    if a.toNat < 10 then p.glyphRom[a.toNat]?
    else if a.toNat < 16 then some 0x00#8
    else none
  | .charlie =>
    if 16 ≤ a.toNat then p.charlieMap[a.toNat - 16]? else none

/-- The invariants of R41 that the types do not hold by themselves. -/
def legalState (s : State) : Bool :=
  decide (s.cursor.toNat < s.params.variant.nslots) && (s.fault == (s.cause != .none))

/-- Whether `TICK` is enabled (R77). -/
def tickEnabled (s : State) : Bool :=
  s.mode == .running && s.pend && s.tie

/-- The next agent's step and the state in which it is taken (R7, R55): the head of the agenda, or, when nothing is
scheduled, a fresh choice of the free schedule. Assumption log 1. -/
def nextTurn (s : State) : AgentStep × State :=
  match s.agenda with
  | [] => (Config.schedule s.draws, s.withDraws (s.draws + 1))
  | e :: rest => (e, s.withAgenda rest)

/-- RESET's step (R148): every register at its reset value and the one reset entry in the trace. The schedule is
the environment's and goes on. -/
def resetStep (s : State) : State :=
  ((State.resetOf s.params).withAgenda s.agenda).withDraws s.draws

end Sys2Proof.Machine
end

