-- ==== Sys2Proof/Machine/Operands.lean ====
section
/-!
DEFINITION. The operand forms of the commands: the variant check and the slot-index check the rules repeat (R114,
R119 to R122), and the write of one bit of `CHARLIE_VAL`. The fields themselves are extracted in Decode.lean (R67).
-/
namespace Sys2Proof.Machine

/-- A command of variant `v` only: elsewhere `VARIANT_MISMATCH` (R69 step 2). -/
def ifVariant (v : Variant) (s : State) (k : Result) : Result :=
  if s.params.variant = v then k else raise .variantMismatch s

/-- A slot index of variant `v`: out of range `BAD_INDEX` (R46, R69 step 4). -/
def ifIndex (v : Variant) (i : Byte) (s : State) (k : Result) : Result :=
  if i.toNat < v.nslots then k else raise .badIndex s

/-- A configuration command: outside IDLE `CFG_LOCKED` (R116, R117). -/
def ifIdle (s : State) (k : Result) : Result :=
  if s.mode = .idle then k else raise .cfgLocked s

/-- `v` with bit `i` set to `b` and the other bits as they were (R119). -/
def setBit (v : Byte) (i : Nat) (b : Bool) : Byte :=
  if b then v ||| (1#8 <<< i) else v &&& ~~~(1#8 <<< i)

end Sys2Proof.Machine
end

