-- ==== Sys2Proof/Machine/HostConfig.lean ====
section
/-!
DEFINITION. The configuration and control commands (R115 to R118).
-/
namespace Sys2Proof.Machine

/-- `NOP` (R115): no effect, in every mode. -/
def execNop (s : State) : Result := .next s

/-- `CFGPER #p` (R116). The invalid period 0 is stored and found by `START`. -/
def execCfgper (p : Half) (s : State) : Result :=
  ifIdle s (.next (s.withPeriod p))

/-- `START` (R117): with `PERIOD = 0` the mode becomes FAULTED before the fault is raised. -/
def execStart (s : State) : Result :=
  ifIdle s
    (if s.period = 0#16 then raise .configError (s.withMode .faulted)
     else .next ((s.withMode .running).withTcnt 0#16))

/-- `TIE #b` (R118): legal in every mode. -/
def execTie (b : Bool) (s : State) : Result := .next (s.withTie b)

end Sys2Proof.Machine
end

