-- ==== Sys2Proof/Machine/HostDisplay.lean ====
section
/-!
DEFINITION. The DisplayState writes (R119 to R122). They are legal in every mode (R124).
-/
namespace Sys2Proof.Machine

/-- `SETPAT i, #b` (R119). -/
def execSetpat (i : Byte) (b : Bool) (s : State) : Result :=
  ifVariant .charlie s (ifIndex .charlie i s (.next (s.withCharlieVal (setBit s.charlieVal i.toNat b))))

/-- `SETMASK #m` (R120): all 8 bits, bits 7:6 too. -/
def execSetmask (m : Byte) (s : State) : Result :=
  ifVariant .charlie s (.next (s.withCharlieVal m))

/-- `SETDIG i, #v` (R121): any byte is stored, 10..255 show blank. -/
def execSetdig (i : Byte) (v : Byte) (s : State) : Result :=
  ifVariant .ssd s (ifIndex .ssd i s (.next (s.withSsdVal (s.ssdVal.setIfInBounds i.toNat v))))

/-- `SETDP i, #b` (R122). -/
def execSetdp (i : Byte) (b : Bool) (s : State) : Result :=
  ifVariant .ssd s (ifIndex .ssd i s (.next (s.withSsdDot (s.ssdDot.setIfInBounds i.toNat b))))

end Sys2Proof.Machine
end

