-- ==== Sys2Proof/Machine/Dispatch.lean ====
section
/-! DEFINITION. The meaning of each host command, one arm per constructor (R115 to R122). -/

namespace Sys2Proof.Machine

def exec (i : Instr) (s : State) : Host.Outcome State Fault Refusal :=
  match i with
  | .nop => Sys2Proof.Machine.execNop s
  | .cfgper p => Sys2Proof.Machine.execCfgper p s
  | .start => Sys2Proof.Machine.execStart s
  | .tie b => Sys2Proof.Machine.execTie b s
  | .setpat j b => Sys2Proof.Machine.execSetpat j b s
  | .setmask m => Sys2Proof.Machine.execSetmask m s
  | .setdig j v => Sys2Proof.Machine.execSetdig j v s
  | .setdp j b => Sys2Proof.Machine.execSetdp j b s

end Sys2Proof.Machine
end

