-- ==== Sys2Proof/Machine/Tick.lean ====
section
/-!
DEFINITION. The tick engine: the glyph decoder and the charlieplex drive (R94 to R101) and ENGINE's step `TICK` in
both variants (R77 to R87).
-/
namespace Sys2Proof.Machine

/-- `segmentsFor(d)` (R96): the glyph of a digit, blank for any other value. `none` only in an instance that holds
no glyph ROM. -/
def segmentsFor (p : Params) (d : Byte) : Option Byte :=
  if d.toNat ≤ 9 then memRead p (romGlyph + d) else some 0x00#8

/-- The segment byte of a position: the glyph with the decimal point OR'd into bit 0 (R97). -/
def withDp (g : Byte) (dp : Bool) : Byte := g ||| (BitVec.ofBool dp).setWidth 8

/-- `drive[i] <- v` (R79); there is no pin 3. -/
def setPin (ps : Pins) (i : BitVec 2) (v : Pin) : Option Pins :=
  if i = 0#2 then some { ps with p0 := v }
  else if i = 1#2 then some { ps with p1 := v }
  else if i = 2#2 then some { ps with p2 := v }
  else none

/-- The level `pa` is driven to (R101). -/
def levelA (pol : Bool) : Pin := if pol then .L else .H

/-- The level `pb` is driven to, the opposite one (R101). -/
def levelB (pol : Bool) : Pin := if pol then .H else .L

/-- `chDrive` (R101): the pins an entry of `CHARLIE_MAP` drives, built as R79 builds them. -/
def chDrive (e : Byte) : Option Pins :=
  match setPin Pins.allZ (mapPa e) (levelA (mapPol e)) with
  | none => none
  | some d1 =>
    match setPin d1 (mapPb e) (levelB (mapPol e)) with
    | none => none
    | some d2 => setPin d2 (mapPf e) .Z

/-- The DRIVE phase of a CHARLIE slot `c` (R79): all Z when all six slots are off (R85) or this one is. -/
def charlieDrive (v : Byte) (c : BitVec 3) (e : Byte) : Option Pins :=
  if v.extractLsb' 0 6 ≠ 0#6 ∧ v.getLsbD c.toNat = true then chDrive e else some Pins.allZ

/-- The cursor after a tick (R83). -/
def nextCursor (v : Variant) (c : BitVec 3) : BitVec 3 := BitVec.ofNat 3 ((c.toNat + 1) % v.nslots)

/-- The writes of a TICK in R78's order: BLANK, DRIVE, `CURSOR`, and `PEND <- 0` last (R84). -/
def finishTick (blank drive : OutVec) (s : State) : State :=
  ((emit drive (emit blank s)).withCursor (nextCursor s.params.variant s.cursor)).withPend false

/-- `TICK`, CHARLIE variant (R79). -/
def tickCharlie (s : State) : Result :=
  match memRead s.params (romCharlie + s.cursor.setWidth 8) with
  | none => .fault .romNotPresent
  | some e =>
    match charlieDrive s.charlieVal s.cursor e with
    | none => .fault .mapEntry
    | some drive => .next (finishTick (.charlie Pins.allZ) (.charlie drive) s)

/-- `TICK`, SSD variant (R80). -/
def tickSsd (s : State) : Result :=
  match s.ssdVal[s.cursor.toNat]?, s.ssdDot[s.cursor.toNat]? with
  | some d, some dp =>
    match segmentsFor s.params d with
    | none => .fault .romNotPresent
    | some g =>
      .next (finishTick (.ssd 0x00#8 0b0000#4) (.ssd (withDp g dp) (1#4 <<< s.cursor.toNat)) s)
  | _, _ => .fault .noPosition

/-- `TICK` of the instance's variant. -/
def tick (s : State) : Result :=
  match s.params.variant with
  | .charlie => tickCharlie s
  | .ssd => tickSsd s

/-- ENGINE's turn (R77): `TICK` when it is enabled; otherwise ENGINE is idle and has no step. Assumption log 4. -/
def engineStep (s : State) : Result :=
  if tickEnabled s then tick s else .next s

end Sys2Proof.Machine
end

