-- ==== Sys2Proof/Machine/Flags.lean ====
section
/-!
DEFINITION. The flags and the status port: the codes of MODE and CAUSE (R23, R127), the 16-bit STATUS_WORD (R32),
and the flags a timer event writes (R106).
-/
namespace Sys2Proof

/-- The 2-bit code of `MODE` (R23). -/
def Mode.code : Mode → BitVec 2
  | .idle => 0#2
  | .running => 1#2
  | .faulted => 2#2

/-- The 4-bit code of `CAUSE` (R127). -/
def Cause.code : Cause → BitVec 4
  | .none => 0#4
  | .illegalOpcode => 1#4
  | .reservedBits => 2#4
  | .variantMismatch => 3#4
  | .badIndex => 4#4
  | .configError => 5#4
  | .cfgLocked => 6#4

end Sys2Proof

namespace Sys2Proof.Machine

/-- `STATUS_WORD` (R32), from bit 15 down: 000, CURSOR, CAUSE, FAULT, OVR, PEND, TIE, MODE. Reading it changes
nothing (R52). -/
def statusWord (s : State) : Half :=
  0#3 ++ s.cursor ++ s.cause.code ++ BitVec.ofBool s.fault ++ BitVec.ofBool s.ovr ++
    BitVec.ofBool s.pend ++ BitVec.ofBool s.tie ++ s.mode.code

/-- `TIMER_EVENT` (R106): request a tick, or record that the pending one has been overrun. -/
def timerEvent (s : State) : State :=
  if s.pend then s.withOvr true else s.withPend true

end Sys2Proof.Machine
end

