-- ==== Sys2Proof/Machine/Timer.lean ====
section
/-!
DEFINITION. The period timer: TIMER's step `TCLK` (R105 to R108).
-/
namespace Sys2Proof.Machine

/-- `TCLK` (R105): counts only while RUNNING; the counter is written first, then TIMER_EVENT, in one step (R138).
R43 excludes RUNNING with `TCNT` not below `PERIOD`. -/
def tclk (s : State) : Result :=
  if s.mode = .running then
    if s.tcnt < s.period then
      if s.tcnt = s.period - 1#16 then .next (timerEvent (s.withTcnt 0#16))
      else .next (s.withTcnt (s.tcnt + 1#16))
    else .fault .timerRange
  else .next s

end Sys2Proof.Machine
end

