-- ==== Sys2Proof/Machine/Agents.lean ====
section
/-!
DEFINITION. One step of each agent (R7), the elaboration of an instance (R13), and what an instance does with an
agent's turn before and after RESET (R149).
-/
namespace Sys2Proof.Machine

/-- HOST's step (R114): the decode checks of R69, then the command's own rule. -/
def hostStep (w : Word) (s : State) : Result :=
  match decodeFor s.params.variant w with
  | .error c => raise c s
  | .ok i => exec i s

/-- One agent's step after RESET. RESET itself has no further step (R149): its turn passes. Assumption log 4. -/
def perform (e : AgentStep) (s : State) : Result :=
  match e with
  | .host w => hostStep w s
  | .timer => tclk s
  | .engine => engineStep s
  | .reset => .next s

/-- An agent's turn before RESET: only RESET has a step (R149). Assumption logs 4 and 14. -/
def beforeReset (e : AgentStep) (s : State) : State :=
  match e with
  | .reset => resetStep s
  | .host _ => s
  | .timer => s
  | .engine => s

/-- A step of the instance: a refused elaboration has none (R13), and a state that breaks R41 gets no meaning. -/
def advance (s : State) : Result :=
  if s.params.legal then
    if s.booted then
      if legalState s then perform (nextTurn s).1 (nextTurn s).2 else .fault .illegalState
    else .next (beforeReset (nextTurn s).1 (nextTurn s).2)
  else .refused .illegalElaboration

/-- Elaboration (R13): the parameters of an instance, refused where any check of R13 fails. -/
def elaborate (variantName : String) (nslots : Nat) (glyphRom : Vector Byte 10) (charlieMap : Vector Byte 6)
    (ssdValReset : Byte) : Except Refusal Params :=
  match Variant.ofName variantName with
  | none => .error .illegalElaboration
  | some v =>
    let p : Params := { variant := v, nslots, glyphRom, charlieMap, ssdValReset }
    if p.legal then .ok p else .error .illegalElaboration

/-- A word put at the command port for HOST's next step, before anything already scheduled. -/
def deliver (w : Word) (s : State) : State := s.withAgenda (.host w :: s.agenda)

end Sys2Proof.Machine
end

