-- ==== Sys2Proof/Machine/Step.lean ====
section
/-!
DEFINITION. One step of the machine: the next agent in the interleaving takes its step (R7, R55).
-/
namespace Sys2Proof.Machine

/-- One step. -/
def step (s : State) : Host.Outcome State Fault Refusal := advance s

/-- `s` with the command word the table numbers `w` as HOST's very next step. The TDMX fetches nothing (R21, R48):
HOST delivers each command (R114). Assumption log 17. -/
def State.withFetchWord (s : State) (nbits w : Nat) : State := deliver (tableWord nbits w) s

end Sys2Proof.Machine
end

