-- ==== Sys2Proof/WellFormed.lean ====
section
/-!
DEFINITION. Which commands the assembler accepts (R74): a slot index in the range of the command's variant. Every
other operand is in range by its type. An ill-formed command can still be encoded with `.word`; the machine decodes
it and faults on it (R128), so execution does not assume well-formedness.
-/
namespace Sys2Proof

/-- The operand ranges of R74: `SETPAT` takes slots 0..5, `SETDIG` and `SETDP` take positions 0..3. -/
def Instr.wellFormed : Instr → Bool
  | .nop => true
  | .cfgper _ => true
  | .start => true
  | .tie _ => true
  | .setpat s _ => decide (s.toNat < 6)
  | .setmask _ => true
  | .setdig s _ => decide (s.toNat < 4)
  | .setdp s _ => decide (s.toNat < 4)

end Sys2Proof
end

