-- ==== Sys2Proof/Machine/Assembler.lean ====
section
/-!
DEFINITION. The command assembler (R74) and its pseudo-instructions (R75): a line of text, the operation it names
with its operands as written, and the command words it stands for. It is software; the machine never sees it.
Assumption log 20 says what R74 leaves open of the text form, log 25 that it asks for no variant.
-/
namespace Sys2Proof.Machine

/-- One assembler operation, operands as written (R74, R75). -/
inductive Asm where
  | nop
  | cfgper (p : Nat)
  | start
  | tie (b : Nat)
  | setpat (s b : Nat)
  | setmask (m : Nat)
  | setdig (s v : Nat)
  | setdp (s b : Nat)
  | word (w : Nat)
  | tieoff
  | tieon
  | clrall
  | allon
  | setnum (n : Nat)
  | blank (s : Nat)
  deriving DecidableEq, Repr

/-- A flag operand, 0 or 1. -/
def asmFlag (b : Nat) : Bool := b == 1

/-- `SETDIG s, #v` of small numbers. -/
def asmSetdig (s v : Nat) : Instr := .setdig (BitVec.ofNat 8 s) (BitVec.ofNat 8 v)

/-- The commands of an operation (R74, R75); `none` where an operand is out of its range. `.word` names no command
and is assembled apart. DESIGN CHOICE, assumption log 25: no variant is asked for, so an operation of the other variant
is assembled too and its words fault with VARIANT_MISMATCH in the machine (R69). -/
def asmCommands : Asm → Option (List Instr)
  | .nop => some [.nop]
  | .cfgper p => if p < 65536 then some [.cfgper (BitVec.ofNat 16 p)] else none
  | .start => some [.start]
  | .tie b => if b < 2 then some [.tie (asmFlag b)] else none
  | .setpat s b => if s < 6 ∧ b < 2 then some [.setpat (BitVec.ofNat 8 s) (asmFlag b)] else none
  | .setmask m => if m < 256 then some [.setmask (BitVec.ofNat 8 m)] else none
  | .setdig s v => if s < 4 ∧ v < 256 then some [asmSetdig s v] else none
  | .setdp s b => if s < 4 ∧ b < 2 then some [.setdp (BitVec.ofNat 8 s) (asmFlag b)] else none
  | .word _ => none
  | .tieoff => some [.tie false]
  | .tieon => some [.tie true]
  | .clrall => some [.setmask 0#8]
  | .allon => some [.setmask 0x3F#8]
  | .setnum n =>
    if n < 10000 then
      some [.tie false, asmSetdig 0 (n % 10), asmSetdig 1 (n / 10 % 10), asmSetdig 2 (n / 100 % 10),
        asmSetdig 3 (n / 1000 % 10), .tie true]
    else none
  | .blank s => if s < 4 then some [asmSetdig s 255] else none

/-- The words of an operation (R74, R75). -/
def assemble (a : Asm) : Option (List Word) :=
  match a with
  | .word w => if w < 2 ^ 32 then some [BitVec.ofNat 32 w] else none
  | .nop | .cfgper _ | .start | .tie _ | .setpat _ _ | .setmask _ | .setdig _ _ | .setdp _ _
  | .tieoff | .tieon | .clrall | .allon | .setnum _ | .blank _ =>
    match asmCommands a with
    | none => none
    | some l => some (l.map encode)

/-- The value of a digit character in bases up to 16. -/
def digitValue (c : Char) : Option Nat :=
  if '0'.toNat ≤ c.toNat ∧ c.toNat ≤ '9'.toNat then some (c.toNat - '0'.toNat)
  else if 'a'.toNat ≤ c.toNat ∧ c.toNat ≤ 'f'.toNat then some (c.toNat - 'a'.toNat + 10)
  else if 'A'.toNat ≤ c.toNat ∧ c.toNat ≤ 'F'.toNat then some (c.toNat - 'A'.toNat + 10)
  else none

/-- The number a run of digits writes, continuing `acc`. -/
def digitsValue (base : Nat) : List Char → Nat → Option Nat
  | [], acc => some acc
  | c :: cs, acc =>
    match digitValue c with
    | none => none
    | some d => if d < base then digitsValue base cs (acc * base + d) else none

/-- A number of at least one digit. -/
def parseDigits (base : Nat) (cs : List Char) : Option Nat :=
  match cs with
  | [] => none
  | c :: rest => digitsValue base (c :: rest) 0

/-- A number in decimal, `0x` hexadecimal or `0b` binary (R74). -/
def parseNumber (cs : List Char) : Option Nat :=
  match cs with
  | '0' :: 'x' :: rest => parseDigits 16 rest
  | '0' :: 'b' :: rest => parseDigits 2 rest
  | rest => parseDigits 10 rest

/-- An immediate `#n` (R74). -/
def parseImmediate (cs : List Char) : Option Nat :=
  match cs with
  | '#' :: rest => parseNumber rest
  | _ => none

/-- The operand of `.word`: `0x` and eight hexadecimal digits (R74). -/
def parseRawWord (cs : List Char) : Option Nat :=
  match cs with
  | '0' :: 'x' :: rest => if rest.length = 8 then parseDigits 16 rest else none
  | _ => none

/-- A token, unless it is empty. -/
def flushToken (cur : List Char) : List (List Char) := if cur = [] then [] else [cur]

/-- The tokens of a line: blanks separate, a comma stands alone, a `;` starts a comment (R74). -/
def tokens : List Char → List Char → List (List Char)
  | [], cur => flushToken cur
  | c :: cs, cur =>
    if c = ';' then flushToken cur
    else if c = ' ' ∨ c = '\t' then flushToken cur ++ tokens cs []
    else if c = ',' then flushToken cur ++ [[',']] ++ tokens cs []
    else tokens cs (cur ++ [c])

/-- An operation without operands. -/
def parsePlain (m : List Char) : Option Asm :=
  if m = ['N', 'O', 'P'] then some .nop
  else if m = ['S', 'T', 'A', 'R', 'T'] then some .start
  else if m = ['T', 'I', 'E', 'O', 'F', 'F'] then some .tieoff
  else if m = ['T', 'I', 'E', 'O', 'N'] then some .tieon
  else if m = ['C', 'L', 'R', 'A', 'L', 'L'] then some .clrall
  else if m = ['A', 'L', 'L', 'O', 'N'] then some .allon
  else none

/-- An operation with one operand. -/
def parseUnary (m a : List Char) : Option Asm :=
  if m = ['C', 'F', 'G', 'P', 'E', 'R'] then (parseImmediate a).map .cfgper
  else if m = ['T', 'I', 'E'] then (parseImmediate a).map .tie
  else if m = ['S', 'E', 'T', 'M', 'A', 'S', 'K'] then (parseImmediate a).map .setmask
  else if m = ['S', 'E', 'T', 'N', 'U', 'M'] then (parseImmediate a).map .setnum
  else if m = ['B', 'L', 'A', 'N', 'K'] then (parseDigits 10 a).map .blank
  else if m = ['.', 'w', 'o', 'r', 'd'] then (parseRawWord a).map .word
  else none

/-- An operation on a slot index and an immediate. -/
def parseBinary (m a b : List Char) : Option Asm :=
  match parseDigits 10 a, parseImmediate b with
  | some s, some n =>
    if m = ['S', 'E', 'T', 'P', 'A', 'T'] then some (.setpat s n)
    else if m = ['S', 'E', 'T', 'D', 'I', 'G'] then some (.setdig s n)
    else if m = ['S', 'E', 'T', 'D', 'P'] then some (.setdp s n)
    else none
  | _, _ => none

/-- One line of assembler text (R74): no operation, one operation, or `none` where it is not of R74's syntax. -/
def parseLine (line : List Char) : Option (List Asm) :=
  match tokens line [] with
  | [] => some []
  | [m] => (parsePlain m).map fun a => [a]
  | [m, a] => (parseUnary m a).map fun x => [x]
  | [m, a, comma, b] => if comma = [','] then (parseBinary m a b).map fun x => [x] else none
  | _ => none

/-- The words of a line of text. -/
def assembleLine (line : List Char) : Option (List Word) :=
  match parseLine line with
  | none => none
  | some ops =>
    match ops with
    | [] => some []
    | a :: _ => assemble a

end Sys2Proof.Machine
end

