-- ==== Sys2Proof/Machine/Gpio.lean ====
section
/-!
DEFINITION. The physical reading of the outputs: the direction and level of a CHARLIE pin (R11, R92), the segments
of a segment byte (R94), and the levels of the SSD pins (R12, R102).
-/
namespace Sys2Proof.Machine

/-- The direction of a pin (R11). -/
inductive Direction where
  | input
  | output
  deriving DecidableEq, Repr

/-- The segments of a digit (R94). -/
inductive Segment where
  | A
  | B
  | C
  | D
  | E
  | F
  | G
  | DP
  deriving DecidableEq, Repr

/-- `setDirection` of a CHARLIE pin (R11, R92). -/
def pinDirection : Pin → Direction
  | .Z => .input
  | .H => .output
  | .L => .output

/-- `setLevel` of a CHARLIE pin (R11, R92). The level latch of an input pin is not observable and not modelled. -/
def pinLevel : Pin → Option Level
  | .Z => none
  | .H => some .high
  | .L => some .low

/-- The bit of the segment byte a segment stands at (R94). -/
def segmentBit : Segment → Nat
  | .A => 7
  | .B => 6
  | .C => 5
  | .D => 4
  | .E => 3
  | .F => 2
  | .G => 1
  | .DP => 0

/-- Whether a segment is lit (R35, R94). -/
def segmentLit (seg : Byte) (x : Segment) : Bool := seg.getLsbD (segmentBit x)

/-- The other level. -/
def oppositeLevel : Level → Level
  | .low => .high
  | .high => .low

/-- The physical level of a logical output whose logical 1 is level `on` (R102). -/
def physicalLevel (on : Level) (b : Bool) : Level := if b then on else oppositeLevel on

/-- The physical level of segment output `k` (R102), whatever `SEG_ON_LEVEL` is. -/
def segPinLevel (s : State) (k : Nat) : Level := physicalLevel Config.segOnLevel (s.seg.getLsbD k)

/-- The physical level of digit enable `k` (R102), whatever `DIG_ON_LEVEL` is. -/
def digPinLevel (s : State) (k : Nat) : Level := physicalLevel Config.digOnLevel (s.dig.getLsbD k)

end Sys2Proof.Machine
end

