-- ==== Sys2Proof/Safety.lean ====
section
/-!
DEFINITION. The terms claims are stated in: successful observation (R15), the at-most-one-slot property (R89), the
invariant of the machine (R36, R41, R43, R89), what happens along a run, fairness (R162) and the flicker bound
(R111).
-/
namespace Sys2Proof.Machine

/-- An observation point (R15): a state after RESET with no fault recorded. -/
def ObservationPoint (s : State) : Prop := s.booted = true ∧ s.fault = false

/-- Pin `i` of the three; there is no pin 3. -/
def pinAt (ps : Pins) (i : BitVec 2) : Option Pin :=
  if i = 0#2 then some ps.p0
  else if i = 1#2 then some ps.p1
  else if i = 2#2 then some ps.p2
  else none

/-- How many pins hold the value `v`. -/
def pinCount (v : Pin) (ps : Pins) : Nat := [ps.p0, ps.p1, ps.p2].count v

/-- How many digit enables are 1. -/
def digCount (dig : BitVec 4) : Nat := (List.range 4).countP fun k => dig.getLsbD k

/-- The at-most-one-slot property of one output vector (R89). -/
def AtMostOneSlot (p : Params) : OutVec → Prop
  | .charlie ps =>
    p.variant = .charlie ∧ pinCount .H ps + pinCount .L ps ≤ 2 ∧
      (pinCount .H ps + pinCount .L ps = 2 →
        pinCount .H ps = 1 ∧ pinCount .L ps = 1 ∧
          ∃ i : Fin 6, pinAt ps (mapPa p.charlieMap[i]) ≠ some .Z ∧ pinAt ps (mapPb p.charlieMap[i]) ≠ some .Z)
  | .ssd _ dig => p.variant = .ssd ∧ digCount dig ≤ 1

/-- The invariant of a reset instance: R41, R43, R36 (the outputs are the trace's last entry) and R89. -/
structure Invariant (s : State) : Prop where
  paramsLegal : s.params.legal = true
  booted : s.booted = true
  cursorRange : s.cursor.toNat < s.params.variant.nslots
  causeFault : s.cause = .none ↔ s.fault = false
  counting : s.mode = .running → 1 ≤ s.period.toNat ∧ s.tcnt.toNat < s.period.toNat
  notCounting : s.mode ≠ .running → s.tcnt = 0#16 ∧ s.pend = false
  outputsLast : s.trace.getLast? = some (outputs s)
  oneSlot : ∀ v ∈ s.trace, AtMostOneSlot s.params v

/-- Nothing has been displayed before START (R109, R150, R151): outside RUNNING the cursor is 0, no overrun is
recorded, and the trace is the one neutral entry of reset. -/
def NeutralUntilRunning (s : State) : Prop :=
  s.mode ≠ .running → s.cursor = 0#3 ∧ s.ovr = false ∧ s.trace = [OutVec.neutral s.params.variant]

/-- The instance steps (R13, R41, R149): elaborated, reset, and in a state R41 allows. -/
def steps (s : State) : Bool := s.params.legal && s.booted && legalState s

/-- The step taken in `s` is a `TICK`. -/
def takesTick (s : State) : Bool := steps s && (nextTurn s).1 == .engine && tickEnabled s

/-- The step taken in `s` is ENGINE's turn, enabled or not. -/
def engineTurn (s : State) : Bool := steps s && (nextTurn s).1 == .engine

/-- The step taken in `s` is a `TCLK`. -/
def takesTclk (s : State) : Bool := steps s && (nextTurn s).1 == .timer

/-- The step taken in `s` is a `TCLK` that raises `TIMER_EVENT` (R105). -/
def raisesEvent (s : State) : Bool :=
  takesTclk s && s.mode == .running && decide (s.tcnt.toNat + 1 = s.period.toNat)

/-- The step taken in `s` is HOST's, with command word `w`. -/
def delivers (w : Word) (s : State) : Bool := steps s && (nextTurn s).1 == .host w

/-- How many of the next `k` steps from `s` satisfy `p`, read in the state each step is taken in. -/
def countAlong (p : State → Bool) : Nat → State → Nat
  | 0, _ => 0
  | k + 1, s =>
    (if p s then 1 else 0) +
      match step s with
      | .next t => countAlong p k t
      | .fault _ => 0
      | .refused _ => 0

/-- `p` holds in each of the states the next `k` steps from `s` are taken in. -/
def holdsAlong (p : State → Prop) : Nat → State → Prop
  | 0, _ => True
  | k + 1, s =>
    p s ∧
      match step s with
      | .next t => holdsAlong p k t
      | .fault _ => True
      | .refused _ => True

/-- The slots the ticks among the next `k` steps drive, in order: the cursor each tick starts with (R82). -/
def slotsAlong : Nat → State → List Nat
  | 0, _ => []
  | k + 1, s =>
    (if takesTick s then [s.cursor.toNat] else []) ++
      match step s with
      | .next t => slotsAlong k t
      | .fault _ => []
      | .refused _ => []

/-- The machine goes from `s` to `t` in `k` steps. -/
def runsTo (k : Nat) (s t : State) : Prop := Sys2Proof.core.run k s = .next t

/-- DisplayState (R17): what the HOST writes and TICK shows. -/
def display (s : State) : Byte × Vector Byte 4 × Vector Bool 4 := (s.charlieVal, s.ssdVal, s.ssdDot)

/-- An infinite run. -/
def IsRun (f : Nat → State) : Prop := ∀ n, step (f n) = .next (f (n + 1))

/-- Weak fairness of TIMER and ENGINE (R162): TCLK steps occur infinitely often, and a TICK that stays enabled is
eventually taken. A premise of claims about infinite runs, never a property of the model: `Config.schedule` is free
(assumption log 15). -/
def WeaklyFair (f : Nat → State) : Prop :=
  (∀ n, ∃ m, n ≤ m ∧ takesTclk (f m) = true) ∧
    ∀ n, (∀ m, n ≤ m → tickEnabled (f m) = true) → ∃ m, n ≤ m ∧ takesTick (f m) = true

/-- TCLKs per full refresh cycle when no tick is overrun (R110). -/
def cycleTclks (v : Variant) (period : Half) : Nat := period.toNat * v.nslots

/-- The flicker bound of R111 at a timer clock of `fHz`: more than about 60 full cycles a second. A duty of whoever
configures the block; nothing in the machine enforces it. The spec gives the threshold only as "~60" (R111, R161, I16);
that it is exactly 60 here is the model's choice. DESIGN CHOICE, assumption log 24. -/
def FlickerBound (fHz : ℝ) (v : Variant) (period : Half) : Prop :=
  0 < fHz ∧ 60 < fHz / (cycleTclks v period : ℝ)

/-- `seconds` is how long a refresh cycle lasts at a timer clock of `fHz` (R110). -/
def CycleLasts (fHz seconds : ℝ) (v : Variant) (period : Half) : Prop :=
  0 < fHz ∧ seconds * fHz = (cycleTclks v period : ℝ)

end Sys2Proof.Machine
end

