-- ==== Sys2Proof/Certificates/Slice0/Obligations.lean ====
section
/-!
DEFINITION. The statements for the provers. Each docstring names the rules of spec/ it formalises, and the entry of
the assumption log where it rests on a choice of the model.
-/

open Sys2Proof Sys2Proof.Machine

/-! ### Encoding (30_encoding.md) -/

/-- R62 to R68: decoding the word of any command, every operand at every value of its field, gives it back. -/
def Obligations.EncodeThenDecode : Prop :=
  ∀ i : Instr, decode (encode i) = .ok i

/-- R68, R71: each accepted word has one meaning, and that command's word is the word. -/
def Obligations.DecodeThenEncode : Prop :=
  ∀ (w : Word) (i : Instr), decode w = .ok i → encode i = w

/-- Command words written out in 43_host_commands.md and 95_test_vectors.md, part 2.5. -/
def Obligations.SpecWordsDecode : Prop :=
  decode 0x00000000#32 = .ok .nop ∧ decode 0x01000BB8#32 = .ok (.cfgper 3000#16) ∧
    decode 0x02000000#32 = .ok .start ∧ decode 0x03000001#32 = .ok (.tie true) ∧
    decode 0x10050001#32 = .ok (.setpat 5#8 true) ∧ decode 0x1100003F#32 = .ok (.setmask 0x3F#8) ∧
    decode 0x20030001#32 = .ok (.setdig 3#8 1#8) ∧ decode 0x21010001#32 = .ok (.setdp 1#8 true) ∧
    decode 0x12000000#32 = .error .illegalOpcode ∧ decode 0x11010000#32 = .error .reservedBits

/-- R68: no word matches two rows of the opcode map, and the words that match a row are exactly those whose opcode
and reserved bits the decoder accepts. That `decode` leaves the variant and the index out is the model's (assumption
log 19). -/
def Obligations.OpcodeMapRows : Prop :=
  let rows : List (Word × Word) :=
    [(0x00000000#32, 0xFFFFFFFF#32), (0x01000000#32, 0xFFFF0000#32), (0x02000000#32, 0xFFFFFFFF#32),
      (0x03000000#32, 0xFFFFFFFE#32), (0x10000000#32, 0xFF00FFFE#32), (0x11000000#32, 0xFFFFFF00#32),
      (0x20000000#32, 0xFF00FF00#32), (0x21000000#32, 0xFF00FFFE#32)]
  ∀ w : Word,
    (rows.filter fun r => decide (w &&& r.2 = r.1)).length ≤ 1 ∧
      ((∃ i, decode w = .ok i) ↔ ∃ r ∈ rows, w &&& r.2 = r.1)

/-- R69 (with R71's bits): what HOST's step does with any word in any state, the checks in the rule's order. -/
def Obligations.DecodeCheckOrder : Prop :=
  ∀ (w : Word) (s : State),
    let op := w.extractLsb' 24 8
    let idx := w.extractLsb' 16 8
    let data := w.extractLsb' 0 16
    hostStep w s =
      if op ∉ [0x00#8, 0x01#8, 0x02#8, 0x03#8, 0x10#8, 0x11#8, 0x20#8, 0x21#8] then
        .next (raiseFault .illegalOpcode s)
      else if (op ∈ [0x10#8, 0x11#8] ∧ s.params.variant ≠ .charlie) ∨
          (op ∈ [0x20#8, 0x21#8] ∧ s.params.variant ≠ .ssd) then
        .next (raiseFault .variantMismatch s)
      else if (op ∈ [0x00#8, 0x02#8] ∧ w.extractLsb' 0 24 ≠ 0#24) ∨ (op = 0x01#8 ∧ idx ≠ 0#8) ∨
          (op = 0x03#8 ∧ w.extractLsb' 1 23 ≠ 0#23) ∨ (op ∈ [0x10#8, 0x21#8] ∧ w.extractLsb' 1 15 ≠ 0#15) ∨
          (op = 0x11#8 ∧ w.extractLsb' 8 16 ≠ 0#16) ∨ (op = 0x20#8 ∧ w.extractLsb' 8 8 ≠ 0#8) then
        .next (raiseFault .reservedBits s)
      else if (op = 0x10#8 ∧ 6 ≤ idx.toNat) ∨ (op ∈ [0x20#8, 0x21#8] ∧ 4 ≤ idx.toNat) then
        .next (raiseFault .badIndex s)
      else if op ∈ [0x01#8, 0x02#8] ∧ s.mode ≠ .idle then .next (raiseFault .cfgLocked s)
      else if op = 0x02#8 ∧ s.period = 0#16 then .next (raiseFault .configError (s.withMode .faulted))
      else if op = 0x00#8 then exec .nop s
      else if op = 0x01#8 then exec (.cfgper data) s
      else if op = 0x02#8 then exec .start s
      else if op = 0x03#8 then exec (.tie (w.getLsbD 0)) s
      else if op = 0x10#8 then exec (.setpat idx (w.getLsbD 0)) s
      else if op = 0x11#8 then exec (.setmask (w.extractLsb' 0 8)) s
      else if op = 0x20#8 then exec (.setdig idx (w.extractLsb' 0 8)) s
      else exec (.setdp idx (w.getLsbD 0)) s

/-! ### The step and its agents (00_scope.md, 20_memory.md) -/

/-- R114: when HOST's word, scheduled next, decodes to a command, the step is that command's meaning, in the state
whose agenda has moved past it. That a schedule stands in the state, its head run and taken off, is the model's
(assumption log 1); the spec leaves the order of the agents open. -/
def Obligations.StepRunsDecodedCommand : Prop :=
  ∀ (s : State) (w : Word) (i : Instr) (rest : List AgentStep),
    s.params.legal = true → s.booted = true → legalState s = true → s.agenda = .host w :: rest →
      decode w = .ok i → step s = exec i (s.withAgenda rest)

/-- R7, R55: the step is that of the agent scheduled next; with nothing scheduled, that of a free choice (assumption
log 1). ENGINE has no step when TICK is not enabled, and RESET none after reset; such a turn passes (log 4). -/
def Obligations.StepTakesNextTurn : Prop :=
  ∀ s : State, s.params.legal = true → s.booted = true → legalState s = true →
    (∀ e rest, s.agenda = e :: rest → step s = perform e (s.withAgenda rest)) ∧
      (s.agenda = [] → step s = perform (Config.schedule s.draws) (s.withDraws (s.draws + 1))) ∧
      ∀ u : State, (∀ w, perform (.host w) u = hostStep w u) ∧ perform .timer u = tclk u ∧
        perform .engine u = (if u.mode = .running ∧ u.pend = true ∧ u.tie = true then tick u else .next u) ∧
        perform .reset u = .next u

/-- R41: a state whose cursor is out of range, or whose CAUSE and FAULT disagree, is given no meaning: the model stops
(assumption log 3). -/
def Obligations.RuledOutStateStops : Prop :=
  ∀ s : State, s.params.legal = true → s.booted = true →
    (s.params.variant = .charlie ∧ 6 ≤ s.cursor.toNat) ∨ (s.params.variant = .ssd ∧ 4 ≤ s.cursor.toNat) ∨
      ¬ (s.cause = .none ↔ s.fault = false) →
    step s = .fault .illegalState

/-- R13, R100: the elaboration checks. That they are a function on the parameters with VARIANT by its name is the
model's (assumption log 11). -/
def Obligations.ElaborationChecks : Prop :=
  ∀ (name : String) (n : Nat) (g : Vector Byte 10) (m : Vector Byte 6) (r : Byte),
    elaborate name n g m r = .error .illegalElaboration ↔
      (name ≠ "CHARLIE" ∧ name ≠ "SSD") ∨ (name = "CHARLIE" ∧ n ≠ 6) ∨ (name = "SSD" ∧ n ≠ 4) ∨
        (∃ i : Fin 6, ¬ ((mapPa m[i]).toNat < 3 ∧ (mapPb m[i]).toNat < 3 ∧ (mapPf m[i]).toNat < 3 ∧
          mapPa m[i] ≠ mapPb m[i] ∧ mapPa m[i] ≠ mapPf m[i] ∧ mapPb m[i] ≠ mapPf m[i] ∧
          m[i].getLsbD 7 = false)) ∨
        (∃ i j : Fin 6, i ≠ j ∧ mapHigh m[i] = mapHigh m[j] ∧ mapLow m[i] = mapLow m[j]) ∨
        ∃ d : Fin 10, g[d].getLsbD 0 = true

/-- R13: a refused instance has no steps; R8: that is the only refusal. That such an instance's step answers with
the refusal is the model's (assumption log 11). -/
def Obligations.OnlyRefusal : Prop :=
  ∀ s : State, (∃ r, step s = .refused r) ↔ s.params.legal = false

/-! ### Reset (70_reset_and_hazards.md, 10_state.md) -/

/-- R148, R40: RESET's step writes every register with its reset value and leaves one trace entry, the neutral
outputs; it reads no state. The clauses on `booted`, `params`, `agenda` and `draws` are the model's: RESET records that
it has been taken and keeps the parameters (assumption log 14), and keeps the rest of the schedule (logs 1 and 14). -/
def Obligations.ResetStep : Prop :=
  ∀ (s : State) (rest : List AgentStep),
    s.params.legal = true → s.booted = false → s.agenda = .reset :: rest →
    ∃ t, step s = .next t ∧
      t.cursor = 0#3 ∧ t.charlieVal = 0x00#8 ∧ (∀ p : Fin 4, t.ssdVal[p] = s.params.ssdValReset) ∧
      (∀ p : Fin 4, t.ssdDot[p] = false) ∧ t.mode = .idle ∧ t.tie = true ∧ t.period = 0#16 ∧ t.tcnt = 0#16 ∧
      t.pend = false ∧ t.ovr = false ∧ t.fault = false ∧ t.cause = .none ∧
      t.pins = { p0 := .Z, p1 := .Z, p2 := .Z } ∧ t.seg = 0x00#8 ∧ t.dig = 0b0000#4 ∧
      t.trace = [match s.params.variant with
        | .charlie => .charlie { p0 := .Z, p1 := .Z, p2 := .Z }
        | .ssd => .ssd 0x00#8 0b0000#4] ∧
      t.booted = true ∧ t.params = s.params ∧ t.agenda = rest ∧ t.draws = s.draws ∧
      (t.withAgenda []).withDraws 0 = State.resetOf s.params

/-- R149: before RESET no other agent has a step, and after it RESET has none and never comes back. A turn without a
step passes, moving only the schedule (assumption logs 1, 4 and 14). -/
def Obligations.ResetOnlyOnce : Prop :=
  (∀ (s : State) (e : AgentStep) (rest : List AgentStep), s.params.legal = true → s.booted = false → e ≠ .reset →
      s.agenda = e :: rest → step s = .next (s.withAgenda rest)) ∧
    (∀ (s : State) (rest : List AgentStep), s.params.legal = true → s.booted = true → legalState s = true →
      s.agenda = .reset :: rest → step s = .next (s.withAgenda rest)) ∧
    ∀ s t : State, s.booted = true → step s = .next t → t.booted = true

/-! ### The host commands (43_host_commands.md) -/

/-- R115: `NOP` leaves every state unchanged; its word is 0, and any other word of its opcode faults. -/
def Obligations.NopRule : Prop :=
  (∀ s : State, exec .nop s = .next s) ∧ decode 0x00000000#32 = .ok .nop ∧
    (∀ s : State, hostStep 0x00000000#32 s = .next s) ∧
    ∀ (s : State) (w : Word), w.extractLsb' 24 8 = 0x00#8 → w ≠ 0x00000000#32 →
      hostStep w s = .next (raiseFault .reservedBits s)

/-- R116: `CFGPER #p`. -/
def Obligations.CfgperRule : Prop :=
  ∀ (s : State) (p : Half),
    (s.mode = .idle → exec (.cfgper p) s = .next { s with period := p }) ∧
    (s.mode = .running ∨ s.mode = .faulted → exec (.cfgper p) s = .next (raiseFault .cfgLocked s)) ∧
    decode (0x01000000#32 ||| p.setWidth 32) = .ok (.cfgper p) ∧
    ∀ w : Word, w.extractLsb' 24 8 = 0x01#8 → w.extractLsb' 16 8 ≠ 0#8 →
      hostStep w s = .next (raiseFault .reservedBits s)

/-- R117: `START`, with its corner case: FAULTED is for good, the timer never counts there and nothing is emitted. -/
def Obligations.StartRule : Prop :=
  ∀ s : State,
    (s.mode = .idle → s.period ≠ 0#16 → exec .start s = .next { s with mode := .running, tcnt := 0#16 }) ∧
    (s.mode = .idle → s.period = 0#16 →
      exec .start s = .next (raiseFault .configError { s with mode := .faulted })) ∧
    (s.mode ≠ .idle → exec .start s = .next (raiseFault .cfgLocked s)) ∧
    decode 0x02000000#32 = .ok .start ∧
    (∀ w : Word, w.extractLsb' 24 8 = 0x02#8 → w ≠ 0x02000000#32 →
      hostStep w s = .next (raiseFault .reservedBits s)) ∧
    ∀ t : State, s.booted = true → s.mode = .faulted → step s = .next t →
      t.mode = .faulted ∧ t.tcnt = s.tcnt ∧ t.trace = s.trace ∧ t.pins = s.pins ∧ t.seg = s.seg ∧ t.dig = s.dig

/-- R118: `TIE #b`, in every mode; a pending tick is held by `TIE #0` and enabled again by `TIE #1`. -/
def Obligations.TieRule : Prop :=
  ∀ (s : State) (b : Bool),
    exec (.tie b) s = .next { s with tie := b } ∧
    (decode 0x03000000#32 = .ok (.tie false) ∧ decode 0x03000001#32 = .ok (.tie true)) ∧
    (∀ w : Word, w.extractLsb' 24 8 = 0x03#8 → w.extractLsb' 1 23 ≠ 0#23 →
      hostStep w s = .next (raiseFault .reservedBits s)) ∧
    tickEnabled { s with tie := false } = false ∧
    (s.mode = .running → s.pend = true → tickEnabled { s with tie := true } = true)

/-- R119: `SETPAT i, #b`. -/
def Obligations.SetpatRule : Prop :=
  ∀ (s : State) (i : Byte) (b : Bool),
    (s.params.variant = .charlie → i.toNat < 6 → ∃ t, exec (.setpat i b) s = .next t ∧
      t.charlieVal.getLsbD i.toNat = b ∧
      (∀ k < 8, k ≠ i.toNat → t.charlieVal.getLsbD k = s.charlieVal.getLsbD k) ∧
      t = { s with charlieVal := t.charlieVal }) ∧
    (s.params.variant = .charlie → 6 ≤ i.toNat → exec (.setpat i b) s = .next (raiseFault .badIndex s)) ∧
    (s.params.variant = .ssd → exec (.setpat i b) s = .next (raiseFault .variantMismatch s)) ∧
    decode (0x10000000#32 ||| (i.setWidth 32 <<< 16) ||| (BitVec.ofBool b).setWidth 32) = .ok (.setpat i b) ∧
    ∀ w : Word, s.params.variant = .charlie → w.extractLsb' 24 8 = 0x10#8 → w.extractLsb' 1 15 ≠ 0#15 →
      hostStep w s = .next (raiseFault .reservedBits s)

/-- R120: `SETMASK #m`; bits 7:6 are stored and change no display. -/
def Obligations.SetmaskRule : Prop :=
  ∀ (s : State) (m : Byte),
    (s.params.variant = .charlie → exec (.setmask m) s = .next { s with charlieVal := m }) ∧
    (s.params.variant = .ssd → exec (.setmask m) s = .next (raiseFault .variantMismatch s)) ∧
    decode (0x11000000#32 ||| m.setWidth 32) = .ok (.setmask m) ∧
    (∀ w : Word, s.params.variant = .charlie → w.extractLsb' 24 8 = 0x11#8 → w.extractLsb' 8 16 ≠ 0#16 →
      hostStep w s = .next (raiseFault .reservedBits s)) ∧
    ∀ (c : BitVec 3) (e : Byte), c.toNat < 6 → charlieDrive m c e = charlieDrive (m &&& 0x3F#8) c e

/-- R121: `SETDIG i, #v`; 10..255 are stored and show blank. -/
def Obligations.SetdigRule : Prop :=
  ∀ (s : State) (i v : Byte),
    (s.params.variant = .ssd → i.toNat < 4 → ∃ t, exec (.setdig i v) s = .next t ∧
      t.ssdVal[i.toNat]? = some v ∧ (∀ k, k ≠ i.toNat → t.ssdVal[k]? = s.ssdVal[k]?) ∧
      t = { s with ssdVal := t.ssdVal }) ∧
    (s.params.variant = .ssd → 4 ≤ i.toNat → exec (.setdig i v) s = .next (raiseFault .badIndex s)) ∧
    (s.params.variant = .charlie → exec (.setdig i v) s = .next (raiseFault .variantMismatch s)) ∧
    decode (0x20000000#32 ||| (i.setWidth 32 <<< 16) ||| v.setWidth 32) = .ok (.setdig i v) ∧
    (∀ w : Word, s.params.variant = .ssd → w.extractLsb' 24 8 = 0x20#8 → w.extractLsb' 8 8 ≠ 0#8 →
      hostStep w s = .next (raiseFault .reservedBits s)) ∧
    (10 ≤ v.toNat → segmentsFor s.params v = some 0x00#8)

/-- R122: `SETDP i, #b`; the decimal point shows on a blank digit too. -/
def Obligations.SetdpRule : Prop :=
  ∀ (s : State) (i : Byte) (b : Bool),
    (s.params.variant = .ssd → i.toNat < 4 → ∃ t, exec (.setdp i b) s = .next t ∧
      t.ssdDot[i.toNat]? = some b ∧ (∀ k, k ≠ i.toNat → t.ssdDot[k]? = s.ssdDot[k]?) ∧
      t = { s with ssdDot := t.ssdDot }) ∧
    (s.params.variant = .ssd → 4 ≤ i.toNat → exec (.setdp i b) s = .next (raiseFault .badIndex s)) ∧
    (s.params.variant = .charlie → exec (.setdp i b) s = .next (raiseFault .variantMismatch s)) ∧
    decode (0x21000000#32 ||| (i.setWidth 32 <<< 16) ||| (BitVec.ofBool b).setWidth 32) = .ok (.setdp i b) ∧
    (∀ w : Word, s.params.variant = .ssd → w.extractLsb' 24 8 = 0x21#8 → w.extractLsb' 1 15 ≠ 0#15 →
      hostStep w s = .next (raiseFault .reservedBits s)) ∧
    withDp 0x00#8 true = 0x01#8

/-- R114 to R122, R124: where each command completes with its own effect, and what that effect is; no fault is
recorded there. -/
def Obligations.CommandsComplete : Prop :=
  ∀ (i : Instr) (s : State),
    (match i with
      | .nop => True
      | .cfgper _ => s.mode = .idle
      | .start => s.mode = .idle ∧ s.period ≠ 0#16
      | .tie _ => True
      | .setpat j _ => s.params.variant = .charlie ∧ j.toNat < 6
      | .setmask _ => s.params.variant = .charlie
      | .setdig j _ => s.params.variant = .ssd ∧ j.toNat < 4
      | .setdp j _ => s.params.variant = .ssd ∧ j.toNat < 4) →
    ∃ t, exec i s = .next t ∧ t.fault = s.fault ∧ t.cause = s.cause ∧
      (match i with
        | .nop => t = s
        | .cfgper p => t.period = p
        | .start => t.mode = .running ∧ t.tcnt = 0#16
        | .tie b => t.tie = b
        | .setpat j b => t.charlieVal.getLsbD j.toNat = b
        | .setmask m => t.charlieVal = m
        | .setdig j v => t.ssdVal[j.toNat]? = some v
        | .setdp j b => t.ssdDot[j.toNat]? = some b)

/-- R8, R129: a command never stops the machine, whatever its operands and the state; nor does any word. A recorded
fault is a next state (assumption log 2). -/
def Obligations.CommandsNeverStop : Prop :=
  (∀ (i : Instr) (s : State), ∃ t, exec i s = .next t) ∧ ∀ (w : Word) (s : State), ∃ t, hostStep w s = .next t

/-- R123: what no command writes, and that outputs change only at TICK and RESET. -/
def Obligations.CommandsLeaveOutputs : Prop :=
  (∀ (w : Word) (s t : State), hostStep w s = .next t →
      t.cursor = s.cursor ∧ t.pend = s.pend ∧ t.ovr = s.ovr ∧ t.pins = s.pins ∧ t.seg = s.seg ∧ t.dig = s.dig ∧
        t.trace = s.trace) ∧
    ∀ s t : State, s.booted = true → step s = .next t → takesTick s = false →
      t.pins = s.pins ∧ t.seg = s.seg ∧ t.dig = s.dig ∧ t.trace = s.trace

/-- The frame of every command (R42, R114 to R122): exactly the registers each may write, and FAULT and CAUSE. -/
def Obligations.CommandFrames : Prop :=
  ∀ (i : Instr) (s t : State), exec i s = .next t →
    (match i with
      | .nop => t = s
      | .cfgper _ => t = { s with period := t.period, fault := t.fault, cause := t.cause }
      | .start => t = { s with mode := t.mode, tcnt := t.tcnt, fault := t.fault, cause := t.cause }
      | .tie _ => t = { s with tie := t.tie }
      | .setpat _ _ => t = { s with charlieVal := t.charlieVal, fault := t.fault, cause := t.cause }
      | .setmask _ => t = { s with charlieVal := t.charlieVal, fault := t.fault, cause := t.cause }
      | .setdig _ _ => t = { s with ssdVal := t.ssdVal, fault := t.fault, cause := t.cause }
      | .setdp _ _ => t = { s with ssdDot := t.ssdDot, fault := t.fault, cause := t.cause })

/-- R129, R131: a host step either records nothing, or does nothing but record one cause (the first fault's cause
stays), START's FAULTED being the one other write. -/
def Obligations.FaultsArePrecise : Prop :=
  (∀ (c : Cause) (s : State), raiseFault c s = { s with fault := true, cause := if s.fault then s.cause else c }) ∧
    ∀ (w : Word) (s t : State), hostStep w s = .next t →
      (t.fault = s.fault ∧ t.cause = s.cause) ∨
        (∃ c, c ≠ .none ∧ t = raiseFault c s) ∨
          (w = 0x02000000#32 ∧ s.mode = .idle ∧ s.period = 0#16 ∧
            t = raiseFault .configError (s.withMode .faulted))

/-- R129: a fault does not stop TIMER or ENGINE: what they do does not depend on FAULT and CAUSE. ENGINE's turn with
no TICK enabled passes (assumption log 4). -/
def Obligations.FaultDoesNotStopRefresh : Prop :=
  ∀ (s t : State) (f : Bool) (c : Cause),
    (tclk s = .next t → tclk { s with fault := f, cause := c } = .next { t with fault := f, cause := c }) ∧
      (engineStep s = .next t →
        engineStep { s with fault := f, cause := c } = .next { t with fault := f, cause := c })

/-- R52: repeating a command gives the same state, but for the recording of a fault. -/
def Obligations.RepeatedCommand : Prop :=
  ∀ (i : Instr) (s t u : State), exec i s = .next t → exec i t = .next u →
    { u with fault := t.fault, cause := t.cause } = t

/-- R32: the layout of the status word, with the codes of R23 and R127. -/
def Obligations.StatusWordLayout : Prop :=
  ∀ s : State,
    (statusWord s).extractLsb' 0 2 =
      (match s.mode with | .idle => 0#2 | .running => 1#2 | .faulted => 2#2) ∧
    (statusWord s).getLsbD 2 = s.tie ∧ (statusWord s).getLsbD 3 = s.pend ∧ (statusWord s).getLsbD 4 = s.ovr ∧
    (statusWord s).getLsbD 5 = s.fault ∧
    (statusWord s).extractLsb' 6 4 =
      (match s.cause with
        | .none => 0#4 | .illegalOpcode => 1#4 | .reservedBits => 2#4 | .variantMismatch => 3#4
        | .badIndex => 4#4 | .configError => 5#4 | .cfgLocked => 6#4) ∧
    (statusWord s).extractLsb' 10 3 = s.cursor ∧ (statusWord s).extractLsb' 13 3 = 0#3

/-! ### The tick (40_tick_engine.md) -/

/-- R77: when TICK is enabled; once enabled it stays so until it is taken or HOST clears TIE. That ENGINE's turn
where TICK is not enabled answers the same state is the model's (assumption log 4): R77 gives ENGINE no step there. -/
def Obligations.TickEnabling : Prop :=
  (∀ s : State, ¬ (s.mode = .running ∧ s.pend = true ∧ s.tie = true) → engineStep s = .next s) ∧
    (∀ s : State, s.mode = .running → s.pend = true → s.tie = true → engineStep s = tick s) ∧
    ∀ s t : State, s.booted = true → step s = .next t → tickEnabled s = true → takesTick s = false →
      delivers 0x03000000#32 s = false → tickEnabled t = true

/-- R79: `TICK`, CHARLIE variant. -/
def Obligations.TickCharlieRule : Prop :=
  ∀ (s : State) (e : Byte), s.params.variant = .charlie → charlieMapOk s.params.charlieMap = true →
    s.params.charlieMap[s.cursor.toNat]? = some e →
    ∃ ps : Pins,
      tick s = .next { s with
        pins := ps
        trace := s.trace ++ [.charlie { p0 := .Z, p1 := .Z, p2 := .Z }, .charlie ps]
        cursor := if s.cursor = 5#3 then 0#3 else s.cursor + 1#3
        pend := false } ∧
      (s.charlieVal.extractLsb' 0 6 ≠ 0#6 → s.charlieVal.getLsbD s.cursor.toNat = true →
        pinAt ps (e.extractLsb' 0 2) = some (if e.getLsbD 4 then .L else .H) ∧
        pinAt ps (e.extractLsb' 2 2) = some (if e.getLsbD 4 then .H else .L) ∧
        pinAt ps (e.extractLsb' 5 2) = some .Z) ∧
      (s.charlieVal.extractLsb' 0 6 = 0#6 ∨ s.charlieVal.getLsbD s.cursor.toNat = false →
        ps = { p0 := .Z, p1 := .Z, p2 := .Z })

/-- R80, R97: `TICK`, SSD variant. -/
def Obligations.TickSsdRule : Prop :=
  ∀ (s : State) (d g : Byte) (dp : Bool), s.params.variant = .ssd →
    s.ssdVal[s.cursor.toNat]? = some d → s.ssdDot[s.cursor.toNat]? = some dp →
    (d.toNat ≤ 9 → s.params.glyphRom[d.toNat]? = some g) → (10 ≤ d.toNat → g = 0x00#8) →
    tick s = .next { s with
      seg := g ||| (BitVec.ofBool dp).setWidth 8
      dig := 1#4 <<< s.cursor.toNat
      trace := s.trace ++ [.ssd 0x00#8 0b0000#4, .ssd (g ||| (BitVec.ofBool dp).setWidth 8) (1#4 <<< s.cursor.toNat)]
      cursor := if s.cursor = 3#3 then 0#3 else s.cursor + 1#3
      pend := false }

/-- R85, R86: nothing to show. CHARLIE, at every cursor: both phases all Z, the cursor still advances and PEND is
cleared. SSD: no segment is lit, and the cursor's digit enable is still asserted. -/
def Obligations.AllOff : Prop :=
  (∀ s : State, s.params.variant = .charlie → s.cursor.toNat < 6 →
    s.charlieVal.extractLsb' 0 6 = 0#6 →
    ∃ t, tick s = .next t ∧
      t.trace = s.trace ++ [.charlie { p0 := .Z, p1 := .Z, p2 := .Z }, .charlie { p0 := .Z, p1 := .Z, p2 := .Z }] ∧
      t.pins = { p0 := .Z, p1 := .Z, p2 := .Z } ∧ t.cursor.toNat = (s.cursor.toNat + 1) % 6 ∧ t.pend = false) ∧
    ∀ s : State, s.params.variant = .ssd → s.cursor.toNat < 4 →
      (∀ p : Fin 4, 10 ≤ s.ssdVal[p].toNat ∧ s.ssdDot[p] = false) →
      ∃ t, tick s = .next t ∧ t.seg = 0x00#8 ∧ t.dig = 1#4 <<< s.cursor.toNat ∧
        t.trace = s.trace ++ [.ssd 0x00#8 0b0000#4, .ssd 0x00#8 (1#4 <<< s.cursor.toNat)]

/-- R87: in an elaborated instance with the cursor in range, TICK always completes, and it records no fault. -/
def Obligations.TickNeverFaults : Prop :=
  ∀ s : State, s.params.legal = true → s.cursor.toNat < s.params.variant.nslots →
    ∃ t, tick s = .next t ∧ t.fault = s.fault ∧ t.cause = s.cause

/-- R93 (and R39): what a TICK writes none of; nor does it write the model's own fields `booted`, `agenda` and `draws`
(assumption logs 1 and 14). -/
def Obligations.TickFrame : Prop :=
  ∀ s t : State, tick s = .next t →
    t.charlieVal = s.charlieVal ∧ t.ssdVal = s.ssdVal ∧ t.ssdDot = s.ssdDot ∧ t.period = s.period ∧
      t.tcnt = s.tcnt ∧ t.tie = s.tie ∧ t.mode = s.mode ∧ t.ovr = s.ovr ∧ t.fault = s.fault ∧ t.cause = s.cause ∧
      t.params = s.params ∧ t.booted = s.booted ∧ t.agenda = s.agenda ∧ t.draws = s.draws

/-! ### The pattern ROM (41_pattern_rom_glyph.md, 20_memory.md) -/

/-- R45: the pattern ROM space of each variant; an instance holds only the half its variant uses. -/
def Obligations.RomMap : Prop :=
  ∀ (p : Params) (a : Byte),
    (p.variant = .ssd →
      (∀ d : Fin 10, a.toNat = d.val → memRead p a = some p.glyphRom[d]) ∧
      (10 ≤ a.toNat ∧ a.toNat ≤ 15 → memRead p a = some 0x00#8) ∧ (16 ≤ a.toNat → memRead p a = none)) ∧
    (p.variant = .charlie →
      (∀ i : Fin 6, a.toNat = 16 + i.val → memRead p a = some p.charlieMap[i]) ∧
      (a.toNat < 16 ∨ 22 ≤ a.toNat → memRead p a = none))

/-- R96: the glyph decoder of an SSD instance, for every value. -/
def Obligations.GlyphDecoder : Prop :=
  ∀ (p : Params) (d : Byte), p.variant = .ssd →
    (∀ k : Fin 10, d.toNat = k.val → segmentsFor p d = some p.glyphRom[k]) ∧
      (10 ≤ d.toNat → segmentsFor p d = some 0x00#8)

/-- The default tables of R95 and R99, read back digit by digit and slot by slot (assumption logs 7 and 8), and
that the default instances pass the checks of R13. -/
def Obligations.DefaultTables : Prop :=
  (List.range 10).map (fun d => segmentsFor (Params.default .ssd) (BitVec.ofNat 8 d)) =
      [some 0xFC#8, some 0x60#8, some 0xDA#8, some 0xF2#8, some 0x66#8, some 0xB6#8, some 0xBE#8, some 0xE0#8,
        some 0xFE#8, some 0xF6#8] ∧
    (Params.default .charlie).charlieMap.toList.map chDrive =
      [some { p0 := .H, p1 := .L, p2 := .Z }, some { p0 := .L, p1 := .H, p2 := .Z },
        some { p0 := .Z, p1 := .H, p2 := .L }, some { p0 := .Z, p1 := .L, p2 := .H },
        some { p0 := .H, p1 := .Z, p2 := .L }, some { p0 := .L, p1 := .Z, p2 := .H }] ∧
    (Params.default .charlie).legal = true ∧ (Params.default .ssd).legal = true

/-- R101: in a well-formed map every slot drives pin `pa` and pin `pb` to opposite levels set by `pol`, leaves pin
`pf` floating, and so has exactly one pin at each of H, L and Z. -/
def Obligations.DriveShape : Prop :=
  ∀ m : Vector Byte 6, charlieMapOk m = true → ∀ i : Fin 6,
    ∃ ps, chDrive m[i] = some ps ∧
      pinAt ps (mapPa m[i]) = some (if mapPol m[i] then .L else .H) ∧
      pinAt ps (mapPb m[i]) = some (if mapPol m[i] then .H else .L) ∧ pinAt ps (mapPf m[i]) = some .Z ∧
      pinCount .H ps = 1 ∧ pinCount .L ps = 1 ∧ pinCount .Z ps = 1

/-- R100: in a well-formed map, two slots never drive the pins alike. -/
def Obligations.DrivesDistinct : Prop :=
  ∀ m : Vector Byte 6, charlieMapOk m = true → ∀ i j : Fin 6, i ≠ j → chDrive m[i] ≠ chDrive m[j]

/-- R11, R92, R102: directions and levels of the pins; the SSD levels for every choice of the OPEN parameters, which
are constants without a value (assumption log 10). An input pin has no level, its latch not being modelled (log 13). -/
def Obligations.PhysicalLevels : Prop :=
  (∀ v : Pin, (pinDirection v = .input ↔ v = .Z) ∧ (pinLevel v = some .high ↔ v = .H) ∧
      (pinLevel v = some .low ↔ v = .L)) ∧
    ∀ (s : State) (k : Nat),
      (segPinLevel s k = Config.segOnLevel ↔ s.seg.getLsbD k = true) ∧
        (digPinLevel s k = Config.digOnLevel ↔ s.dig.getLsbD k = true)

/-! ### The period timer (42_timer.md) -/

/-- R105, R106: `TCLK` and `TIMER_EVENT`; with the invariant (R43) a RUNNING instance never has PERIOD = 0, and its
timer always steps. -/
def Obligations.TclkRule : Prop :=
  ∀ s : State,
    (s.mode ≠ .running → tclk s = .next s) ∧
    (s.mode = .running → s.tcnt.toNat + 1 = s.period.toNat → s.pend = false →
      tclk s = .next { s with tcnt := 0#16, pend := true }) ∧
    (s.mode = .running → s.tcnt.toNat + 1 = s.period.toNat → s.pend = true →
      tclk s = .next { s with tcnt := 0#16, ovr := true }) ∧
    (s.mode = .running → s.tcnt.toNat + 1 < s.period.toNat →
      ∃ n : Half, n.toNat = s.tcnt.toNat + 1 ∧ tclk s = .next { s with tcnt := n }) ∧
    (Invariant s → s.mode = .running → s.period ≠ 0#16 ∧ ∃ t, tclk s = .next t)

/-- R107 (with R105): along any run of a running instance, whatever else happens in it, events and count are exact:
with `TCNT = 0`, as START leaves it, the k-th event is at the (k·PERIOD)-th TCLK. -/
def Obligations.ExactPeriod : Prop :=
  ∀ (k : Nat) (s t : State), Invariant s → s.mode = .running → runsTo k s t →
    t.mode = .running ∧ t.period = s.period ∧
      countAlong raisesEvent k s = (s.tcnt.toNat + countAlong takesTclk k s) / s.period.toNat ∧
      t.tcnt.toNat = (s.tcnt.toNat + countAlong takesTclk k s) % s.period.toNat

/-- R113: where no overrun is recorded, ticks and events match one to one, the pending tick counted. -/
def Obligations.TicksMatchEvents : Prop :=
  ∀ (k : Nat) (s t : State), Invariant s → runsTo k s t → t.ovr = false →
    countAlong takesTick k s + t.pend.toNat = countAlong raisesEvent k s + s.pend.toNat

/-- R156: a window of fewer than PERIOD TCLKs, whatever else happens in it, contains at most one event; if ticks are
held in it and none was pending, it loses no tick. -/
def Obligations.ShortWindowLosesNoTick : Prop :=
  ∀ (k : Nat) (s t : State), Invariant s → s.mode = .running → runsTo k s t →
    countAlong takesTclk k s < s.period.toNat →
    countAlong raisesEvent k s ≤ 1 ∧ (s.pend = false → t.ovr = s.ovr)

/-! ### Whole-machine rules -/

/-- R42, R149: which agent writes what. The model's own part of it: the schedule's fields (assumption log 1) move with
every turn, a turn of RESET after reset writes nothing else (log 4), nor does another agent's turn before RESET
(log 14). -/
def Obligations.AccessMatrix : Prop :=
  ∀ s t : State, step s = .next t →
    ∃ a n, (let u := (s.withAgenda a).withDraws n
      (s.booted = true →
        match (nextTurn s).1 with
        | .host w =>
          t = { u with charlieVal := t.charlieVal, ssdVal := t.ssdVal, ssdDot := t.ssdDot, period := t.period,
                       tie := t.tie, mode := t.mode, tcnt := t.tcnt, fault := t.fault, cause := t.cause } ∧
            (w ≠ 0x02000000#32 → t.mode = s.mode ∧ t.tcnt = s.tcnt)
        | .timer => t = { u with tcnt := t.tcnt, pend := t.pend, ovr := t.ovr }
        | .engine =>
          t = { u with cursor := t.cursor, pend := t.pend, pins := t.pins, seg := t.seg, dig := t.dig,
                       trace := t.trace } ∧ (t.pend = true → s.pend = true)
        | .reset => t = u) ∧
      (s.booted = false →
        t = if (nextTurn s).1 = .reset then ((State.resetOf s.params).withAgenda a).withDraws n else u))

/-- R23: the legal transitions of MODE. -/
def Obligations.ModeTransitions : Prop :=
  ∀ s t : State, s.booted = true → step s = .next t →
    t.mode = s.mode ∨
      (s.mode = .idle ∧ delivers 0x02000000#32 s = true ∧
        ((s.period ≠ 0#16 ∧ t.mode = .running) ∨ (s.period = 0#16 ∧ t.mode = .faulted)))

/-- R25, R159: PERIOD is written only by `CFGPER`, and only in IDLE. -/
def Obligations.PeriodLocked : Prop :=
  ∀ s t : State, s.booted = true → step s = .next t →
    (s.mode ≠ .idle → t.period = s.period) ∧
      (t.period ≠ s.period → delivers (0x01000000#32 ||| t.period.setWidth 32) s = true)

/-- R22: after RESET the cursor moves only at a TICK, and then to the next slot. -/
def Obligations.CursorOwnedByEngine : Prop :=
  ∀ s t : State, s.booted = true → step s = .next t →
    (takesTick s = false → t.cursor = s.cursor) ∧
      (takesTick s = true → t.cursor.toNat = (s.cursor.toNat + 1) % s.params.variant.nslots)

/-- R31 (R27 to R30): what sets and clears each flag; OVR, FAULT and the first cause are kept by every step. -/
def Obligations.FlagTable : Prop :=
  ∀ s t : State, s.booted = true → step s = .next t →
    (s.pend = false → t.pend = true → raisesEvent s = true) ∧
    (s.pend = true → t.pend = false → takesTick s = true) ∧
    (s.ovr = true → t.ovr = true) ∧
    (s.ovr = false → t.ovr = true → raisesEvent s = true ∧ s.pend = true) ∧
    (s.fault = false → t.fault = true → (∃ w, delivers w s = true) ∧ t.cause ≠ .none) ∧
    (s.fault = true → t.fault = true ∧ t.cause = s.cause) ∧
    (s.fault = false → t.fault = false → t.cause = s.cause) ∧
    (t.tie ≠ s.tie → delivers (if t.tie then 0x03000001#32 else 0x03000000#32) s = true)

/-- R41, R43, R36, R89 hold right after reset, for every legal parameter set. -/
def Obligations.InvariantAtReset : Prop :=
  ∀ p : Params, p.legal = true → Invariant (State.resetOf p)

/-- R41, R43, R36, R89: every step of every agent keeps the invariant. -/
def Obligations.InvariantKept : Prop :=
  ∀ s t : State, Invariant s → step s = .next t → Invariant t

/-- R8, R15, R41: from a state with the invariant the machine always steps; none of the model's own stops is
reached (assumption log 3). A turn of an agent without a step passes (log 4). -/
def Obligations.InvariantNeverStops : Prop :=
  ∀ s : State, Invariant s → ∃ t, step s = .next t

/-- R109, R150, R151: outside RUNNING the cursor is 0, no overrun is recorded, and the outputs and trace are reset's. -/
def Obligations.NeutralUntilStart : Prop :=
  (∀ p : Params, NeutralUntilRunning (State.resetOf p)) ∧
    ∀ s t : State, s.booted = true → NeutralUntilRunning s → step s = .next t → NeutralUntilRunning t

/-- R90: the ticks of any run drive the slots in round-robin order from the cursor it starts with, whatever falls
between them, and N of them return the cursor. -/
def Obligations.RoundRobin : Prop :=
  ∀ (k : Nat) (s t : State), Invariant s → runsTo k s t →
    slotsAlong k s =
        (List.range (countAlong takesTick k s)).map
          (fun j => (s.cursor.toNat + j) % s.params.variant.nslots) ∧
      t.cursor.toNat = (s.cursor.toNat + countAlong takesTick k s) % s.params.variant.nslots ∧
      (countAlong takesTick k s = s.params.variant.nslots → t.cursor = s.cursor)

/-- R91: with DisplayState unchanged, every full cycle of N ticks emits the same output sequence. -/
def Obligations.CyclesRepeat : Prop :=
  ∀ (k l : Nat) (s m t : State), Invariant s → runsTo k s m → runsTo l m t →
    holdsAlong (fun u => display u = display s) k s → holdsAlong (fun u => display u = display s) l m →
    countAlong takesTick k s = s.params.variant.nslots → countAlong takesTick l m = s.params.variant.nslots →
    m.trace.drop s.trace.length = t.trace.drop m.trace.length

/-- R125, R158: a slot whose own value stays as it is is shown within NSLOTS ticks. -/
def Obligations.SlotShownWithinCycle : Prop :=
  ∀ (k : Nat) (s t : State), Invariant s → runsTo k s t → countAlong takesTick k s = s.params.variant.nslots →
    (s.params.variant = .charlie → ∀ i : Fin 6, ∀ b : Bool,
      holdsAlong (fun u => u.charlieVal.getLsbD i.val = b) k s →
      ∃ ps, (if b then chDrive s.params.charlieMap[i] else some Pins.allZ) = some ps ∧
        OutVec.charlie ps ∈ t.trace.drop s.trace.length) ∧
    (s.params.variant = .ssd → ∀ (i : Fin 4) (d : Byte) (dp : Bool),
      holdsAlong (fun u => u.ssdVal[i] = d ∧ u.ssdDot[i] = dp) k s →
      ∃ g, segmentsFor s.params d = some g ∧
        OutVec.ssd (withDp g dp) (1#4 <<< i.val) ∈ t.trace.drop s.trace.length)

/-- R57, R24: in a window that TIE = 0 opens and no `TIE #1` closes, no TICK occurs, nothing is emitted, and a
pending tick stays pending. -/
def Obligations.HeldWindow : Prop :=
  ∀ (k : Nat) (s t : State), Invariant s → s.tie = false → runsTo k s t →
    holdsAlong (fun u => delivers 0x03000001#32 u = false) k s →
    countAlong takesTick k s = 0 ∧ t.tie = false ∧ t.cursor = s.cursor ∧ t.trace = s.trace ∧
      t.pins = s.pins ∧ t.seg = s.seg ∧ t.dig = s.dig ∧ (s.pend = true → t.pend = true)

/-- R77: an enabled TICK is not lost: on any run in which ENGINE gets a turn and HOST delivers no `TIE #0`, it is
taken. -/
def Obligations.EnabledTickIsTaken : Prop :=
  ∀ (k : Nat) (s t : State), Invariant s → tickEnabled s = true → runsTo k s t →
    holdsAlong (fun u => delivers 0x03000000#32 u = false) k s →
    1 ≤ countAlong engineTurn k s → 1 ≤ countAlong takesTick k s

/-- R108, R77: a running instance with TIE = 1 goes on ticking: PERIOD TCLKs and then a turn of ENGINE bring a TICK,
whatever else happens, unless HOST delivers `TIE #0`. -/
def Obligations.RefreshGoesOn : Prop :=
  ∀ (k l : Nat) (s m t : State), Invariant s → s.mode = .running → s.tie = true → runsTo k s m → runsTo l m t →
    holdsAlong (fun u => delivers 0x03000000#32 u = false) k s →
    holdsAlong (fun u => delivers 0x03000000#32 u = false) l m →
    s.period.toNat ≤ countAlong takesTclk k s → 1 ≤ countAlong engineTurn l m →
    1 ≤ countAlong takesTick k s + countAlong takesTick l m

/-! ### The assembler (30_encoding.md) -/

/-- R74, R75: the words of the eight commands and of the pseudo-instructions, and that an operand out of its range
is refused. That they are given whatever the instance's variant is the model's choice (assumption log 25). -/
def Obligations.AssemblerTable : Prop :=
  ∀ a b : Nat,
    assemble .nop = some [0x00000000#32] ∧ assemble .start = some [0x02000000#32] ∧
    assemble (.cfgper a) = (if a ≤ 65535 then some [0x01000000#32 ||| BitVec.ofNat 32 a] else none) ∧
    assemble (.tie a) = (if a ≤ 1 then some [0x03000000#32 ||| BitVec.ofNat 32 a] else none) ∧
    assemble (.setpat a b) =
      (if a ≤ 5 ∧ b ≤ 1 then some [0x10000000#32 ||| (BitVec.ofNat 32 a <<< 16) ||| BitVec.ofNat 32 b] else none) ∧
    assemble (.setmask a) = (if a ≤ 255 then some [0x11000000#32 ||| BitVec.ofNat 32 a] else none) ∧
    assemble (.setdig a b) =
      (if a ≤ 3 ∧ b ≤ 255 then some [0x20000000#32 ||| (BitVec.ofNat 32 a <<< 16) ||| BitVec.ofNat 32 b] else none) ∧
    assemble (.setdp a b) =
      (if a ≤ 3 ∧ b ≤ 1 then some [0x21000000#32 ||| (BitVec.ofNat 32 a <<< 16) ||| BitVec.ofNat 32 b] else none) ∧
    assemble .tieoff = some [0x03000000#32] ∧ assemble .tieon = some [0x03000001#32] ∧
    assemble .clrall = some [0x11000000#32] ∧ assemble .allon = some [0x1100003F#32] ∧
    assemble (.setnum a) =
      (if a ≤ 9999 then
        some [0x03000000#32, 0x20000000#32 ||| BitVec.ofNat 32 (a % 10),
          0x20010000#32 ||| BitVec.ofNat 32 ((a / 10) % 10), 0x20020000#32 ||| BitVec.ofNat 32 ((a / 100) % 10),
          0x20030000#32 ||| BitVec.ofNat 32 ((a / 1000) % 10), 0x03000001#32]
      else none) ∧
    assemble (.blank a) = (if a ≤ 3 then some [0x200000FF#32 ||| (BitVec.ofNat 32 a <<< 16)] else none)
end

