-- ==== Sys2Proof/Laws/Decode.lean ====
section
/-!
SUPPORT. The fields of a packed command word, and what a successful decode says: the lemmas later proofs cite instead
of unfolding the decoder.
-/
namespace Sys2Proof

theorem opField_packWord (op idx : Byte) (data : Half) : opField (packWord op idx data) = op := by
  simp only [opField, packWord]
  ext i hi
  simp only [BitVec.getElem_extractLsb', BitVec.getLsbD_append]
  simp [show ¬ 24 + i < 16 by omega, show 24 + i - 16 = 8 + i by omega, BitVec.getLsbD_eq_getElem hi]

theorem idxField_packWord (op idx : Byte) (data : Half) : idxField (packWord op idx data) = idx := by
  simp only [idxField, packWord]
  ext i hi
  simp only [BitVec.getElem_extractLsb', BitVec.getLsbD_append]
  simp [show 16 + i - 16 = i by omega, hi]

theorem dataField_packWord (op idx : Byte) (data : Half) : dataField (packWord op idx data) = data := by
  simp only [dataField, packWord]
  ext i hi
  simp only [BitVec.getElem_extractLsb', BitVec.getLsbD_append]
  simp [hi]

/-- The byte operand is the low byte of `DATA`. -/
theorem byteOperand_packWord (op idx : Byte) (v : Byte) : byteOperand (packWord op idx (byteData v)) = v := by
  simp only [byteOperand, packWord, byteData]
  ext i hi
  simp only [BitVec.getElem_extractLsb', BitVec.getLsbD_append]
  simp [show i < 16 by omega, hi]

/-- The flag operand is bit 0 of `DATA`. -/
theorem flagOperand_packWord (op idx : Byte) (b : Bool) : flagOperand (packWord op idx (flagData b)) = b := by
  simp only [flagOperand, packWord, BitVec.getLsbD_append]
  cases b <;> simp [flagData]

/-- A word is its three fields (R62). -/
theorem packWord_fields (w : Word) : packWord (opField w) (idxField w) (dataField w) = w := by
  simp only [packWord, opField, idxField, dataField]
  ext i hi
  simp only [← BitVec.getLsbD_eq_getElem, BitVec.getLsbD_append, BitVec.getLsbD_extractLsb']
  by_cases h1 : i < 16
  · simp [h1]
  · by_cases h2 : i - 16 < 8
    · simp [h1, h2, show 16 + (i - 16) = i by omega]
    · simp [h1, h2, show i - 16 - 8 < 8 by omega, show 24 + (i - 16 - 8) = i by omega]

/-- Masking acts field by field. -/
theorem packWord_and (a b c d : Byte) (x y : Half) :
    packWord a b x &&& packWord c d y = packWord (a &&& c) (b &&& d) (x &&& y) := by
  have h : ((a ++ b ++ x) &&& (c ++ d ++ y) : BitVec (8 + 8 + 16)) = (a &&& c) ++ (b &&& d) ++ (x &&& y) := by
    rw [BitVec.and_append, BitVec.and_append]
  exact h

/-- Two words with the same fields are one. -/
theorem packWord_inj {a b c d : Byte} {x y : Half} (h : packWord a b x = packWord c d y) :
    a = c ∧ b = d ∧ x = y := by
  refine ⟨?_, ?_, ?_⟩
  · simpa only [opField_packWord] using congrArg opField h
  · simpa only [idxField_packWord] using congrArg idxField h
  · simpa only [dataField_packWord] using congrArg dataField h

/-- The reserved-zero check of R71, field by field: a word of opcode `op` passes it when its `IDX` and `DATA` are 0
under their parts of the mask. -/
theorem and_mask_iff (op idx mi : Byte) (data md : Half) :
    packWord op idx data &&& packWord 0xFF#8 mi md = packWord op 0#8 0#16 ↔ idx &&& mi = 0#8 ∧ data &&& md = 0#16 := by
  rw [packWord_and, show (0xFF#8 : Byte) = BitVec.allOnes 8 from rfl, BitVec.and_allOnes]
  constructor
  · intro h
    exact ⟨(packWord_inj h).2.1, (packWord_inj h).2.2⟩
  · rintro ⟨h1, h2⟩
    rw [h1, h2]

/-- The opcode map read forwards and backwards agrees (R68). -/
theorem ofByte_eq_some {b : Byte} {op : Opcode} : Opcode.ofByte b = some op ↔ b = op.code := by
  constructor
  · intro h
    unfold Opcode.ofByte at h
    split_ifs at h <;> cases h <;> assumption
  · rintro rfl
    cases op <;> rfl

/-- What a successful decode says (R69, steps 1 and 3). -/
theorem decode_ok {w : Word} {i : Instr} :
    decode w = .ok i ↔ ∃ op : Opcode, opField w = op.code ∧ w &&& op.maskWord = op.matchWord ∧ op.operands w = i := by
  unfold decode
  constructor
  · intro h
    split at h
    · cases h
    · rename_i op hop
      split_ifs at h with hm
      exact ⟨op, ofByte_eq_some.1 hop, hm, by cases h; rfl⟩
  · rintro ⟨op, hop, hm, rfl⟩
    rw [ofByte_eq_some.2 hop]
    simp [hm]

end Sys2Proof
end

