-- ==== Sys2Proof/Laws/PerInstr.lean ====
section
/-!
SUPPORT. Facts about every command as syntax, one lemma per constructor. Family `Encoding`: a command's word carries
the opcode of R68 in bits 31:24, and reads 0 in every reserved-zero bit (R71).
-/
namespace Sys2Proof

/-- The opcode of a command (R68). -/
def Instr.opcode : Instr → Opcode
  | .nop => .nop
  | .cfgper _ => .cfgper
  | .start => .start
  | .tie _ => .tie
  | .setpat _ _ => .setpat
  | .setmask _ => .setmask
  | .setdig _ _ => .setdig
  | .setdp _ _ => .setdp

/-- A flag fills only bit 0 of `DATA`. -/
theorem flagData_and (b : Bool) : flagData b &&& 0xFFFE#16 = 0#16 := by cases b <;> rfl

/-- A byte fills only bits 7:0 of `DATA`. -/
theorem byteData_and (v : Byte) : byteData v &&& 0xFF00#16 = 0#16 := by
  have h : (0xFF00#16 : Half) = 0xFF#8 ++ 0x00#8 := by decide
  rw [h, byteData, BitVec.and_append, BitVec.zero_and, BitVec.and_zero]
  rfl

end Sys2Proof

namespace Sys2Proof.Laws.Encoding

/-- The word of `i` carries `i`'s opcode and has 0 in every reserved-zero bit. -/
def Statement (i : Instr) : Prop :=
  opField (encode i) = i.opcode.code ∧ encode i &&& i.opcode.maskWord = i.opcode.matchWord

/-- Field by field: the opcode, and each field under its part of the mask. -/
theorem of_fields {op idx mi : Byte} {data md : Half} {o : Opcode} (hop : op = o.code)
    (hmask : o.maskWord = packWord 0xFF#8 mi md) (hmatch : o.matchWord = packWord op 0#8 0#16)
    (hidx : idx &&& mi = 0#8) (hdata : data &&& md = 0#16) :
    opField (packWord op idx data) = o.code ∧ packWord op idx data &&& o.maskWord = o.matchWord := by
  refine ⟨(opField_packWord op idx data).trans hop, ?_⟩
  rw [hmask, hmatch, packWord_and, hidx, hdata, show (0xFF#8 : Byte) = BitVec.allOnes 8 from rfl, BitVec.and_allOnes]

theorem nop : Statement .nop := of_fields (mi := 0xFF#8) (md := 0xFFFF#16) rfl rfl rfl rfl rfl
theorem cfgper (p : Half) : Statement (.cfgper p) :=
  of_fields (mi := 0xFF#8) (md := 0#16) rfl rfl rfl rfl BitVec.and_zero
theorem start : Statement .start := of_fields (mi := 0xFF#8) (md := 0xFFFF#16) rfl rfl rfl rfl rfl
theorem tie (b : Bool) : Statement (.tie b) :=
  of_fields (mi := 0xFF#8) (md := 0xFFFE#16) rfl rfl rfl rfl (flagData_and b)
theorem setpat (s : Byte) (b : Bool) : Statement (.setpat s b) :=
  of_fields (mi := 0#8) (md := 0xFFFE#16) rfl rfl rfl BitVec.and_zero (flagData_and b)
theorem setmask (m : Byte) : Statement (.setmask m) :=
  of_fields (mi := 0xFF#8) (md := 0xFF00#16) rfl rfl rfl rfl (byteData_and m)
theorem setdig (s v : Byte) : Statement (.setdig s v) :=
  of_fields (mi := 0#8) (md := 0xFF00#16) rfl rfl rfl BitVec.and_zero (byteData_and v)
theorem setdp (s : Byte) (b : Bool) : Statement (.setdp s b) :=
  of_fields (mi := 0#8) (md := 0xFFFE#16) rfl rfl rfl BitVec.and_zero (flagData_and b)

end Sys2Proof.Laws.Encoding
end

