-- ==== Sys2Proof/Laws/State.lean ====
section
/-!
SUPPORT. What each update of the state leaves in each field, true by unfolding: later proofs rewrite with these and
unfold no record update.
-/
namespace Sys2Proof.Machine

@[simp] theorem State.withMode_params (m : Mode) (s : State) : (s.withMode m).params = s.params := rfl
@[simp] theorem State.withMode_booted (m : Mode) (s : State) : (s.withMode m).booted = s.booted := rfl
@[simp] theorem State.withMode_agenda (m : Mode) (s : State) : (s.withMode m).agenda = s.agenda := rfl
@[simp] theorem State.withMode_draws (m : Mode) (s : State) : (s.withMode m).draws = s.draws := rfl
@[simp] theorem State.withMode_charlieVal (m : Mode) (s : State) : (s.withMode m).charlieVal = s.charlieVal := rfl
@[simp] theorem State.withMode_ssdVal (m : Mode) (s : State) : (s.withMode m).ssdVal = s.ssdVal := rfl
@[simp] theorem State.withMode_ssdDot (m : Mode) (s : State) : (s.withMode m).ssdDot = s.ssdDot := rfl
@[simp] theorem State.withMode_cursor (m : Mode) (s : State) : (s.withMode m).cursor = s.cursor := rfl
@[simp] theorem State.withMode_mode (m : Mode) (s : State) : (s.withMode m).mode = m := rfl
@[simp] theorem State.withMode_tie (m : Mode) (s : State) : (s.withMode m).tie = s.tie := rfl
@[simp] theorem State.withMode_period (m : Mode) (s : State) : (s.withMode m).period = s.period := rfl
@[simp] theorem State.withMode_tcnt (m : Mode) (s : State) : (s.withMode m).tcnt = s.tcnt := rfl
@[simp] theorem State.withMode_pend (m : Mode) (s : State) : (s.withMode m).pend = s.pend := rfl
@[simp] theorem State.withMode_ovr (m : Mode) (s : State) : (s.withMode m).ovr = s.ovr := rfl
@[simp] theorem State.withMode_fault (m : Mode) (s : State) : (s.withMode m).fault = s.fault := rfl
@[simp] theorem State.withMode_cause (m : Mode) (s : State) : (s.withMode m).cause = s.cause := rfl
@[simp] theorem State.withMode_pins (m : Mode) (s : State) : (s.withMode m).pins = s.pins := rfl
@[simp] theorem State.withMode_seg (m : Mode) (s : State) : (s.withMode m).seg = s.seg := rfl
@[simp] theorem State.withMode_dig (m : Mode) (s : State) : (s.withMode m).dig = s.dig := rfl
@[simp] theorem State.withMode_trace (m : Mode) (s : State) : (s.withMode m).trace = s.trace := rfl

@[simp] theorem State.withTie_params (b : Bool) (s : State) : (s.withTie b).params = s.params := rfl
@[simp] theorem State.withTie_booted (b : Bool) (s : State) : (s.withTie b).booted = s.booted := rfl
@[simp] theorem State.withTie_agenda (b : Bool) (s : State) : (s.withTie b).agenda = s.agenda := rfl
@[simp] theorem State.withTie_draws (b : Bool) (s : State) : (s.withTie b).draws = s.draws := rfl
@[simp] theorem State.withTie_charlieVal (b : Bool) (s : State) : (s.withTie b).charlieVal = s.charlieVal := rfl
@[simp] theorem State.withTie_ssdVal (b : Bool) (s : State) : (s.withTie b).ssdVal = s.ssdVal := rfl
@[simp] theorem State.withTie_ssdDot (b : Bool) (s : State) : (s.withTie b).ssdDot = s.ssdDot := rfl
@[simp] theorem State.withTie_cursor (b : Bool) (s : State) : (s.withTie b).cursor = s.cursor := rfl
@[simp] theorem State.withTie_mode (b : Bool) (s : State) : (s.withTie b).mode = s.mode := rfl
@[simp] theorem State.withTie_tie (b : Bool) (s : State) : (s.withTie b).tie = b := rfl
@[simp] theorem State.withTie_period (b : Bool) (s : State) : (s.withTie b).period = s.period := rfl
@[simp] theorem State.withTie_tcnt (b : Bool) (s : State) : (s.withTie b).tcnt = s.tcnt := rfl
@[simp] theorem State.withTie_pend (b : Bool) (s : State) : (s.withTie b).pend = s.pend := rfl
@[simp] theorem State.withTie_ovr (b : Bool) (s : State) : (s.withTie b).ovr = s.ovr := rfl
@[simp] theorem State.withTie_fault (b : Bool) (s : State) : (s.withTie b).fault = s.fault := rfl
@[simp] theorem State.withTie_cause (b : Bool) (s : State) : (s.withTie b).cause = s.cause := rfl
@[simp] theorem State.withTie_pins (b : Bool) (s : State) : (s.withTie b).pins = s.pins := rfl
@[simp] theorem State.withTie_seg (b : Bool) (s : State) : (s.withTie b).seg = s.seg := rfl
@[simp] theorem State.withTie_dig (b : Bool) (s : State) : (s.withTie b).dig = s.dig := rfl
@[simp] theorem State.withTie_trace (b : Bool) (s : State) : (s.withTie b).trace = s.trace := rfl

@[simp] theorem State.withPeriod_params (p : Half) (s : State) : (s.withPeriod p).params = s.params := rfl
@[simp] theorem State.withPeriod_booted (p : Half) (s : State) : (s.withPeriod p).booted = s.booted := rfl
@[simp] theorem State.withPeriod_agenda (p : Half) (s : State) : (s.withPeriod p).agenda = s.agenda := rfl
@[simp] theorem State.withPeriod_draws (p : Half) (s : State) : (s.withPeriod p).draws = s.draws := rfl
@[simp] theorem State.withPeriod_charlieVal (p : Half) (s : State) : (s.withPeriod p).charlieVal = s.charlieVal := rfl
@[simp] theorem State.withPeriod_ssdVal (p : Half) (s : State) : (s.withPeriod p).ssdVal = s.ssdVal := rfl
@[simp] theorem State.withPeriod_ssdDot (p : Half) (s : State) : (s.withPeriod p).ssdDot = s.ssdDot := rfl
@[simp] theorem State.withPeriod_cursor (p : Half) (s : State) : (s.withPeriod p).cursor = s.cursor := rfl
@[simp] theorem State.withPeriod_mode (p : Half) (s : State) : (s.withPeriod p).mode = s.mode := rfl
@[simp] theorem State.withPeriod_tie (p : Half) (s : State) : (s.withPeriod p).tie = s.tie := rfl
@[simp] theorem State.withPeriod_period (p : Half) (s : State) : (s.withPeriod p).period = p := rfl
@[simp] theorem State.withPeriod_tcnt (p : Half) (s : State) : (s.withPeriod p).tcnt = s.tcnt := rfl
@[simp] theorem State.withPeriod_pend (p : Half) (s : State) : (s.withPeriod p).pend = s.pend := rfl
@[simp] theorem State.withPeriod_ovr (p : Half) (s : State) : (s.withPeriod p).ovr = s.ovr := rfl
@[simp] theorem State.withPeriod_fault (p : Half) (s : State) : (s.withPeriod p).fault = s.fault := rfl
@[simp] theorem State.withPeriod_cause (p : Half) (s : State) : (s.withPeriod p).cause = s.cause := rfl
@[simp] theorem State.withPeriod_pins (p : Half) (s : State) : (s.withPeriod p).pins = s.pins := rfl
@[simp] theorem State.withPeriod_seg (p : Half) (s : State) : (s.withPeriod p).seg = s.seg := rfl
@[simp] theorem State.withPeriod_dig (p : Half) (s : State) : (s.withPeriod p).dig = s.dig := rfl
@[simp] theorem State.withPeriod_trace (p : Half) (s : State) : (s.withPeriod p).trace = s.trace := rfl

@[simp] theorem State.withTcnt_params (n : Half) (s : State) : (s.withTcnt n).params = s.params := rfl
@[simp] theorem State.withTcnt_booted (n : Half) (s : State) : (s.withTcnt n).booted = s.booted := rfl
@[simp] theorem State.withTcnt_agenda (n : Half) (s : State) : (s.withTcnt n).agenda = s.agenda := rfl
@[simp] theorem State.withTcnt_draws (n : Half) (s : State) : (s.withTcnt n).draws = s.draws := rfl
@[simp] theorem State.withTcnt_charlieVal (n : Half) (s : State) : (s.withTcnt n).charlieVal = s.charlieVal := rfl
@[simp] theorem State.withTcnt_ssdVal (n : Half) (s : State) : (s.withTcnt n).ssdVal = s.ssdVal := rfl
@[simp] theorem State.withTcnt_ssdDot (n : Half) (s : State) : (s.withTcnt n).ssdDot = s.ssdDot := rfl
@[simp] theorem State.withTcnt_cursor (n : Half) (s : State) : (s.withTcnt n).cursor = s.cursor := rfl
@[simp] theorem State.withTcnt_mode (n : Half) (s : State) : (s.withTcnt n).mode = s.mode := rfl
@[simp] theorem State.withTcnt_tie (n : Half) (s : State) : (s.withTcnt n).tie = s.tie := rfl
@[simp] theorem State.withTcnt_period (n : Half) (s : State) : (s.withTcnt n).period = s.period := rfl
@[simp] theorem State.withTcnt_tcnt (n : Half) (s : State) : (s.withTcnt n).tcnt = n := rfl
@[simp] theorem State.withTcnt_pend (n : Half) (s : State) : (s.withTcnt n).pend = s.pend := rfl
@[simp] theorem State.withTcnt_ovr (n : Half) (s : State) : (s.withTcnt n).ovr = s.ovr := rfl
@[simp] theorem State.withTcnt_fault (n : Half) (s : State) : (s.withTcnt n).fault = s.fault := rfl
@[simp] theorem State.withTcnt_cause (n : Half) (s : State) : (s.withTcnt n).cause = s.cause := rfl
@[simp] theorem State.withTcnt_pins (n : Half) (s : State) : (s.withTcnt n).pins = s.pins := rfl
@[simp] theorem State.withTcnt_seg (n : Half) (s : State) : (s.withTcnt n).seg = s.seg := rfl
@[simp] theorem State.withTcnt_dig (n : Half) (s : State) : (s.withTcnt n).dig = s.dig := rfl
@[simp] theorem State.withTcnt_trace (n : Half) (s : State) : (s.withTcnt n).trace = s.trace := rfl

@[simp] theorem State.withPend_params (b : Bool) (s : State) : (s.withPend b).params = s.params := rfl
@[simp] theorem State.withPend_booted (b : Bool) (s : State) : (s.withPend b).booted = s.booted := rfl
@[simp] theorem State.withPend_agenda (b : Bool) (s : State) : (s.withPend b).agenda = s.agenda := rfl
@[simp] theorem State.withPend_draws (b : Bool) (s : State) : (s.withPend b).draws = s.draws := rfl
@[simp] theorem State.withPend_charlieVal (b : Bool) (s : State) : (s.withPend b).charlieVal = s.charlieVal := rfl
@[simp] theorem State.withPend_ssdVal (b : Bool) (s : State) : (s.withPend b).ssdVal = s.ssdVal := rfl
@[simp] theorem State.withPend_ssdDot (b : Bool) (s : State) : (s.withPend b).ssdDot = s.ssdDot := rfl
@[simp] theorem State.withPend_cursor (b : Bool) (s : State) : (s.withPend b).cursor = s.cursor := rfl
@[simp] theorem State.withPend_mode (b : Bool) (s : State) : (s.withPend b).mode = s.mode := rfl
@[simp] theorem State.withPend_tie (b : Bool) (s : State) : (s.withPend b).tie = s.tie := rfl
@[simp] theorem State.withPend_period (b : Bool) (s : State) : (s.withPend b).period = s.period := rfl
@[simp] theorem State.withPend_tcnt (b : Bool) (s : State) : (s.withPend b).tcnt = s.tcnt := rfl
@[simp] theorem State.withPend_pend (b : Bool) (s : State) : (s.withPend b).pend = b := rfl
@[simp] theorem State.withPend_ovr (b : Bool) (s : State) : (s.withPend b).ovr = s.ovr := rfl
@[simp] theorem State.withPend_fault (b : Bool) (s : State) : (s.withPend b).fault = s.fault := rfl
@[simp] theorem State.withPend_cause (b : Bool) (s : State) : (s.withPend b).cause = s.cause := rfl
@[simp] theorem State.withPend_pins (b : Bool) (s : State) : (s.withPend b).pins = s.pins := rfl
@[simp] theorem State.withPend_seg (b : Bool) (s : State) : (s.withPend b).seg = s.seg := rfl
@[simp] theorem State.withPend_dig (b : Bool) (s : State) : (s.withPend b).dig = s.dig := rfl
@[simp] theorem State.withPend_trace (b : Bool) (s : State) : (s.withPend b).trace = s.trace := rfl

@[simp] theorem State.withOvr_params (b : Bool) (s : State) : (s.withOvr b).params = s.params := rfl
@[simp] theorem State.withOvr_booted (b : Bool) (s : State) : (s.withOvr b).booted = s.booted := rfl
@[simp] theorem State.withOvr_agenda (b : Bool) (s : State) : (s.withOvr b).agenda = s.agenda := rfl
@[simp] theorem State.withOvr_draws (b : Bool) (s : State) : (s.withOvr b).draws = s.draws := rfl
@[simp] theorem State.withOvr_charlieVal (b : Bool) (s : State) : (s.withOvr b).charlieVal = s.charlieVal := rfl
@[simp] theorem State.withOvr_ssdVal (b : Bool) (s : State) : (s.withOvr b).ssdVal = s.ssdVal := rfl
@[simp] theorem State.withOvr_ssdDot (b : Bool) (s : State) : (s.withOvr b).ssdDot = s.ssdDot := rfl
@[simp] theorem State.withOvr_cursor (b : Bool) (s : State) : (s.withOvr b).cursor = s.cursor := rfl
@[simp] theorem State.withOvr_mode (b : Bool) (s : State) : (s.withOvr b).mode = s.mode := rfl
@[simp] theorem State.withOvr_tie (b : Bool) (s : State) : (s.withOvr b).tie = s.tie := rfl
@[simp] theorem State.withOvr_period (b : Bool) (s : State) : (s.withOvr b).period = s.period := rfl
@[simp] theorem State.withOvr_tcnt (b : Bool) (s : State) : (s.withOvr b).tcnt = s.tcnt := rfl
@[simp] theorem State.withOvr_pend (b : Bool) (s : State) : (s.withOvr b).pend = s.pend := rfl
@[simp] theorem State.withOvr_ovr (b : Bool) (s : State) : (s.withOvr b).ovr = b := rfl
@[simp] theorem State.withOvr_fault (b : Bool) (s : State) : (s.withOvr b).fault = s.fault := rfl
@[simp] theorem State.withOvr_cause (b : Bool) (s : State) : (s.withOvr b).cause = s.cause := rfl
@[simp] theorem State.withOvr_pins (b : Bool) (s : State) : (s.withOvr b).pins = s.pins := rfl
@[simp] theorem State.withOvr_seg (b : Bool) (s : State) : (s.withOvr b).seg = s.seg := rfl
@[simp] theorem State.withOvr_dig (b : Bool) (s : State) : (s.withOvr b).dig = s.dig := rfl
@[simp] theorem State.withOvr_trace (b : Bool) (s : State) : (s.withOvr b).trace = s.trace := rfl

@[simp] theorem State.withCursor_params (c : BitVec 3) (s : State) : (s.withCursor c).params = s.params := rfl
@[simp] theorem State.withCursor_booted (c : BitVec 3) (s : State) : (s.withCursor c).booted = s.booted := rfl
@[simp] theorem State.withCursor_agenda (c : BitVec 3) (s : State) : (s.withCursor c).agenda = s.agenda := rfl
@[simp] theorem State.withCursor_draws (c : BitVec 3) (s : State) : (s.withCursor c).draws = s.draws := rfl
@[simp] theorem State.withCursor_charlieVal (c : BitVec 3) (s : State) : (s.withCursor c).charlieVal = s.charlieVal := rfl
@[simp] theorem State.withCursor_ssdVal (c : BitVec 3) (s : State) : (s.withCursor c).ssdVal = s.ssdVal := rfl
@[simp] theorem State.withCursor_ssdDot (c : BitVec 3) (s : State) : (s.withCursor c).ssdDot = s.ssdDot := rfl
@[simp] theorem State.withCursor_cursor (c : BitVec 3) (s : State) : (s.withCursor c).cursor = c := rfl
@[simp] theorem State.withCursor_mode (c : BitVec 3) (s : State) : (s.withCursor c).mode = s.mode := rfl
@[simp] theorem State.withCursor_tie (c : BitVec 3) (s : State) : (s.withCursor c).tie = s.tie := rfl
@[simp] theorem State.withCursor_period (c : BitVec 3) (s : State) : (s.withCursor c).period = s.period := rfl
@[simp] theorem State.withCursor_tcnt (c : BitVec 3) (s : State) : (s.withCursor c).tcnt = s.tcnt := rfl
@[simp] theorem State.withCursor_pend (c : BitVec 3) (s : State) : (s.withCursor c).pend = s.pend := rfl
@[simp] theorem State.withCursor_ovr (c : BitVec 3) (s : State) : (s.withCursor c).ovr = s.ovr := rfl
@[simp] theorem State.withCursor_fault (c : BitVec 3) (s : State) : (s.withCursor c).fault = s.fault := rfl
@[simp] theorem State.withCursor_cause (c : BitVec 3) (s : State) : (s.withCursor c).cause = s.cause := rfl
@[simp] theorem State.withCursor_pins (c : BitVec 3) (s : State) : (s.withCursor c).pins = s.pins := rfl
@[simp] theorem State.withCursor_seg (c : BitVec 3) (s : State) : (s.withCursor c).seg = s.seg := rfl
@[simp] theorem State.withCursor_dig (c : BitVec 3) (s : State) : (s.withCursor c).dig = s.dig := rfl
@[simp] theorem State.withCursor_trace (c : BitVec 3) (s : State) : (s.withCursor c).trace = s.trace := rfl

@[simp] theorem State.withCharlieVal_params (v : Byte) (s : State) : (s.withCharlieVal v).params = s.params := rfl
@[simp] theorem State.withCharlieVal_booted (v : Byte) (s : State) : (s.withCharlieVal v).booted = s.booted := rfl
@[simp] theorem State.withCharlieVal_agenda (v : Byte) (s : State) : (s.withCharlieVal v).agenda = s.agenda := rfl
@[simp] theorem State.withCharlieVal_draws (v : Byte) (s : State) : (s.withCharlieVal v).draws = s.draws := rfl
@[simp] theorem State.withCharlieVal_charlieVal (v : Byte) (s : State) : (s.withCharlieVal v).charlieVal = v := rfl
@[simp] theorem State.withCharlieVal_ssdVal (v : Byte) (s : State) : (s.withCharlieVal v).ssdVal = s.ssdVal := rfl
@[simp] theorem State.withCharlieVal_ssdDot (v : Byte) (s : State) : (s.withCharlieVal v).ssdDot = s.ssdDot := rfl
@[simp] theorem State.withCharlieVal_cursor (v : Byte) (s : State) : (s.withCharlieVal v).cursor = s.cursor := rfl
@[simp] theorem State.withCharlieVal_mode (v : Byte) (s : State) : (s.withCharlieVal v).mode = s.mode := rfl
@[simp] theorem State.withCharlieVal_tie (v : Byte) (s : State) : (s.withCharlieVal v).tie = s.tie := rfl
@[simp] theorem State.withCharlieVal_period (v : Byte) (s : State) : (s.withCharlieVal v).period = s.period := rfl
@[simp] theorem State.withCharlieVal_tcnt (v : Byte) (s : State) : (s.withCharlieVal v).tcnt = s.tcnt := rfl
@[simp] theorem State.withCharlieVal_pend (v : Byte) (s : State) : (s.withCharlieVal v).pend = s.pend := rfl
@[simp] theorem State.withCharlieVal_ovr (v : Byte) (s : State) : (s.withCharlieVal v).ovr = s.ovr := rfl
@[simp] theorem State.withCharlieVal_fault (v : Byte) (s : State) : (s.withCharlieVal v).fault = s.fault := rfl
@[simp] theorem State.withCharlieVal_cause (v : Byte) (s : State) : (s.withCharlieVal v).cause = s.cause := rfl
@[simp] theorem State.withCharlieVal_pins (v : Byte) (s : State) : (s.withCharlieVal v).pins = s.pins := rfl
@[simp] theorem State.withCharlieVal_seg (v : Byte) (s : State) : (s.withCharlieVal v).seg = s.seg := rfl
@[simp] theorem State.withCharlieVal_dig (v : Byte) (s : State) : (s.withCharlieVal v).dig = s.dig := rfl
@[simp] theorem State.withCharlieVal_trace (v : Byte) (s : State) : (s.withCharlieVal v).trace = s.trace := rfl

@[simp] theorem State.withSsdVal_params (v : Vector Byte 4) (s : State) : (s.withSsdVal v).params = s.params := rfl
@[simp] theorem State.withSsdVal_booted (v : Vector Byte 4) (s : State) : (s.withSsdVal v).booted = s.booted := rfl
@[simp] theorem State.withSsdVal_agenda (v : Vector Byte 4) (s : State) : (s.withSsdVal v).agenda = s.agenda := rfl
@[simp] theorem State.withSsdVal_draws (v : Vector Byte 4) (s : State) : (s.withSsdVal v).draws = s.draws := rfl
@[simp] theorem State.withSsdVal_charlieVal (v : Vector Byte 4) (s : State) : (s.withSsdVal v).charlieVal = s.charlieVal := rfl
@[simp] theorem State.withSsdVal_ssdVal (v : Vector Byte 4) (s : State) : (s.withSsdVal v).ssdVal = v := rfl
@[simp] theorem State.withSsdVal_ssdDot (v : Vector Byte 4) (s : State) : (s.withSsdVal v).ssdDot = s.ssdDot := rfl
@[simp] theorem State.withSsdVal_cursor (v : Vector Byte 4) (s : State) : (s.withSsdVal v).cursor = s.cursor := rfl
@[simp] theorem State.withSsdVal_mode (v : Vector Byte 4) (s : State) : (s.withSsdVal v).mode = s.mode := rfl
@[simp] theorem State.withSsdVal_tie (v : Vector Byte 4) (s : State) : (s.withSsdVal v).tie = s.tie := rfl
@[simp] theorem State.withSsdVal_period (v : Vector Byte 4) (s : State) : (s.withSsdVal v).period = s.period := rfl
@[simp] theorem State.withSsdVal_tcnt (v : Vector Byte 4) (s : State) : (s.withSsdVal v).tcnt = s.tcnt := rfl
@[simp] theorem State.withSsdVal_pend (v : Vector Byte 4) (s : State) : (s.withSsdVal v).pend = s.pend := rfl
@[simp] theorem State.withSsdVal_ovr (v : Vector Byte 4) (s : State) : (s.withSsdVal v).ovr = s.ovr := rfl
@[simp] theorem State.withSsdVal_fault (v : Vector Byte 4) (s : State) : (s.withSsdVal v).fault = s.fault := rfl
@[simp] theorem State.withSsdVal_cause (v : Vector Byte 4) (s : State) : (s.withSsdVal v).cause = s.cause := rfl
@[simp] theorem State.withSsdVal_pins (v : Vector Byte 4) (s : State) : (s.withSsdVal v).pins = s.pins := rfl
@[simp] theorem State.withSsdVal_seg (v : Vector Byte 4) (s : State) : (s.withSsdVal v).seg = s.seg := rfl
@[simp] theorem State.withSsdVal_dig (v : Vector Byte 4) (s : State) : (s.withSsdVal v).dig = s.dig := rfl
@[simp] theorem State.withSsdVal_trace (v : Vector Byte 4) (s : State) : (s.withSsdVal v).trace = s.trace := rfl

@[simp] theorem State.withSsdDot_params (v : Vector Bool 4) (s : State) : (s.withSsdDot v).params = s.params := rfl
@[simp] theorem State.withSsdDot_booted (v : Vector Bool 4) (s : State) : (s.withSsdDot v).booted = s.booted := rfl
@[simp] theorem State.withSsdDot_agenda (v : Vector Bool 4) (s : State) : (s.withSsdDot v).agenda = s.agenda := rfl
@[simp] theorem State.withSsdDot_draws (v : Vector Bool 4) (s : State) : (s.withSsdDot v).draws = s.draws := rfl
@[simp] theorem State.withSsdDot_charlieVal (v : Vector Bool 4) (s : State) : (s.withSsdDot v).charlieVal = s.charlieVal := rfl
@[simp] theorem State.withSsdDot_ssdVal (v : Vector Bool 4) (s : State) : (s.withSsdDot v).ssdVal = s.ssdVal := rfl
@[simp] theorem State.withSsdDot_ssdDot (v : Vector Bool 4) (s : State) : (s.withSsdDot v).ssdDot = v := rfl
@[simp] theorem State.withSsdDot_cursor (v : Vector Bool 4) (s : State) : (s.withSsdDot v).cursor = s.cursor := rfl
@[simp] theorem State.withSsdDot_mode (v : Vector Bool 4) (s : State) : (s.withSsdDot v).mode = s.mode := rfl
@[simp] theorem State.withSsdDot_tie (v : Vector Bool 4) (s : State) : (s.withSsdDot v).tie = s.tie := rfl
@[simp] theorem State.withSsdDot_period (v : Vector Bool 4) (s : State) : (s.withSsdDot v).period = s.period := rfl
@[simp] theorem State.withSsdDot_tcnt (v : Vector Bool 4) (s : State) : (s.withSsdDot v).tcnt = s.tcnt := rfl
@[simp] theorem State.withSsdDot_pend (v : Vector Bool 4) (s : State) : (s.withSsdDot v).pend = s.pend := rfl
@[simp] theorem State.withSsdDot_ovr (v : Vector Bool 4) (s : State) : (s.withSsdDot v).ovr = s.ovr := rfl
@[simp] theorem State.withSsdDot_fault (v : Vector Bool 4) (s : State) : (s.withSsdDot v).fault = s.fault := rfl
@[simp] theorem State.withSsdDot_cause (v : Vector Bool 4) (s : State) : (s.withSsdDot v).cause = s.cause := rfl
@[simp] theorem State.withSsdDot_pins (v : Vector Bool 4) (s : State) : (s.withSsdDot v).pins = s.pins := rfl
@[simp] theorem State.withSsdDot_seg (v : Vector Bool 4) (s : State) : (s.withSsdDot v).seg = s.seg := rfl
@[simp] theorem State.withSsdDot_dig (v : Vector Bool 4) (s : State) : (s.withSsdDot v).dig = s.dig := rfl
@[simp] theorem State.withSsdDot_trace (v : Vector Bool 4) (s : State) : (s.withSsdDot v).trace = s.trace := rfl

@[simp] theorem State.withAgenda_params (a : List AgentStep) (s : State) : (s.withAgenda a).params = s.params := rfl
@[simp] theorem State.withAgenda_booted (a : List AgentStep) (s : State) : (s.withAgenda a).booted = s.booted := rfl
@[simp] theorem State.withAgenda_agenda (a : List AgentStep) (s : State) : (s.withAgenda a).agenda = a := rfl
@[simp] theorem State.withAgenda_draws (a : List AgentStep) (s : State) : (s.withAgenda a).draws = s.draws := rfl
@[simp] theorem State.withAgenda_charlieVal (a : List AgentStep) (s : State) : (s.withAgenda a).charlieVal = s.charlieVal := rfl
@[simp] theorem State.withAgenda_ssdVal (a : List AgentStep) (s : State) : (s.withAgenda a).ssdVal = s.ssdVal := rfl
@[simp] theorem State.withAgenda_ssdDot (a : List AgentStep) (s : State) : (s.withAgenda a).ssdDot = s.ssdDot := rfl
@[simp] theorem State.withAgenda_cursor (a : List AgentStep) (s : State) : (s.withAgenda a).cursor = s.cursor := rfl
@[simp] theorem State.withAgenda_mode (a : List AgentStep) (s : State) : (s.withAgenda a).mode = s.mode := rfl
@[simp] theorem State.withAgenda_tie (a : List AgentStep) (s : State) : (s.withAgenda a).tie = s.tie := rfl
@[simp] theorem State.withAgenda_period (a : List AgentStep) (s : State) : (s.withAgenda a).period = s.period := rfl
@[simp] theorem State.withAgenda_tcnt (a : List AgentStep) (s : State) : (s.withAgenda a).tcnt = s.tcnt := rfl
@[simp] theorem State.withAgenda_pend (a : List AgentStep) (s : State) : (s.withAgenda a).pend = s.pend := rfl
@[simp] theorem State.withAgenda_ovr (a : List AgentStep) (s : State) : (s.withAgenda a).ovr = s.ovr := rfl
@[simp] theorem State.withAgenda_fault (a : List AgentStep) (s : State) : (s.withAgenda a).fault = s.fault := rfl
@[simp] theorem State.withAgenda_cause (a : List AgentStep) (s : State) : (s.withAgenda a).cause = s.cause := rfl
@[simp] theorem State.withAgenda_pins (a : List AgentStep) (s : State) : (s.withAgenda a).pins = s.pins := rfl
@[simp] theorem State.withAgenda_seg (a : List AgentStep) (s : State) : (s.withAgenda a).seg = s.seg := rfl
@[simp] theorem State.withAgenda_dig (a : List AgentStep) (s : State) : (s.withAgenda a).dig = s.dig := rfl
@[simp] theorem State.withAgenda_trace (a : List AgentStep) (s : State) : (s.withAgenda a).trace = s.trace := rfl

@[simp] theorem State.withDraws_params (n : Nat) (s : State) : (s.withDraws n).params = s.params := rfl
@[simp] theorem State.withDraws_booted (n : Nat) (s : State) : (s.withDraws n).booted = s.booted := rfl
@[simp] theorem State.withDraws_agenda (n : Nat) (s : State) : (s.withDraws n).agenda = s.agenda := rfl
@[simp] theorem State.withDraws_draws (n : Nat) (s : State) : (s.withDraws n).draws = n := rfl
@[simp] theorem State.withDraws_charlieVal (n : Nat) (s : State) : (s.withDraws n).charlieVal = s.charlieVal := rfl
@[simp] theorem State.withDraws_ssdVal (n : Nat) (s : State) : (s.withDraws n).ssdVal = s.ssdVal := rfl
@[simp] theorem State.withDraws_ssdDot (n : Nat) (s : State) : (s.withDraws n).ssdDot = s.ssdDot := rfl
@[simp] theorem State.withDraws_cursor (n : Nat) (s : State) : (s.withDraws n).cursor = s.cursor := rfl
@[simp] theorem State.withDraws_mode (n : Nat) (s : State) : (s.withDraws n).mode = s.mode := rfl
@[simp] theorem State.withDraws_tie (n : Nat) (s : State) : (s.withDraws n).tie = s.tie := rfl
@[simp] theorem State.withDraws_period (n : Nat) (s : State) : (s.withDraws n).period = s.period := rfl
@[simp] theorem State.withDraws_tcnt (n : Nat) (s : State) : (s.withDraws n).tcnt = s.tcnt := rfl
@[simp] theorem State.withDraws_pend (n : Nat) (s : State) : (s.withDraws n).pend = s.pend := rfl
@[simp] theorem State.withDraws_ovr (n : Nat) (s : State) : (s.withDraws n).ovr = s.ovr := rfl
@[simp] theorem State.withDraws_fault (n : Nat) (s : State) : (s.withDraws n).fault = s.fault := rfl
@[simp] theorem State.withDraws_cause (n : Nat) (s : State) : (s.withDraws n).cause = s.cause := rfl
@[simp] theorem State.withDraws_pins (n : Nat) (s : State) : (s.withDraws n).pins = s.pins := rfl
@[simp] theorem State.withDraws_seg (n : Nat) (s : State) : (s.withDraws n).seg = s.seg := rfl
@[simp] theorem State.withDraws_dig (n : Nat) (s : State) : (s.withDraws n).dig = s.dig := rfl
@[simp] theorem State.withDraws_trace (n : Nat) (s : State) : (s.withDraws n).trace = s.trace := rfl

@[simp] theorem raiseFault_params (c : Cause) (s : State) : (raiseFault c s).params = s.params := rfl
@[simp] theorem raiseFault_booted (c : Cause) (s : State) : (raiseFault c s).booted = s.booted := rfl
@[simp] theorem raiseFault_agenda (c : Cause) (s : State) : (raiseFault c s).agenda = s.agenda := rfl
@[simp] theorem raiseFault_draws (c : Cause) (s : State) : (raiseFault c s).draws = s.draws := rfl
@[simp] theorem raiseFault_charlieVal (c : Cause) (s : State) : (raiseFault c s).charlieVal = s.charlieVal := rfl
@[simp] theorem raiseFault_ssdVal (c : Cause) (s : State) : (raiseFault c s).ssdVal = s.ssdVal := rfl
@[simp] theorem raiseFault_ssdDot (c : Cause) (s : State) : (raiseFault c s).ssdDot = s.ssdDot := rfl
@[simp] theorem raiseFault_cursor (c : Cause) (s : State) : (raiseFault c s).cursor = s.cursor := rfl
@[simp] theorem raiseFault_mode (c : Cause) (s : State) : (raiseFault c s).mode = s.mode := rfl
@[simp] theorem raiseFault_tie (c : Cause) (s : State) : (raiseFault c s).tie = s.tie := rfl
@[simp] theorem raiseFault_period (c : Cause) (s : State) : (raiseFault c s).period = s.period := rfl
@[simp] theorem raiseFault_tcnt (c : Cause) (s : State) : (raiseFault c s).tcnt = s.tcnt := rfl
@[simp] theorem raiseFault_pend (c : Cause) (s : State) : (raiseFault c s).pend = s.pend := rfl
@[simp] theorem raiseFault_ovr (c : Cause) (s : State) : (raiseFault c s).ovr = s.ovr := rfl
@[simp] theorem raiseFault_fault (c : Cause) (s : State) : (raiseFault c s).fault = true := rfl
@[simp] theorem raiseFault_cause (c : Cause) (s : State) : (raiseFault c s).cause = if s.fault then s.cause else c := rfl
@[simp] theorem raiseFault_pins (c : Cause) (s : State) : (raiseFault c s).pins = s.pins := rfl
@[simp] theorem raiseFault_seg (c : Cause) (s : State) : (raiseFault c s).seg = s.seg := rfl
@[simp] theorem raiseFault_dig (c : Cause) (s : State) : (raiseFault c s).dig = s.dig := rfl
@[simp] theorem raiseFault_trace (c : Cause) (s : State) : (raiseFault c s).trace = s.trace := rfl

@[simp] theorem emit_params (v : OutVec) (s : State) : (emit v s).params = s.params := rfl
@[simp] theorem emit_booted (v : OutVec) (s : State) : (emit v s).booted = s.booted := rfl
@[simp] theorem emit_agenda (v : OutVec) (s : State) : (emit v s).agenda = s.agenda := rfl
@[simp] theorem emit_draws (v : OutVec) (s : State) : (emit v s).draws = s.draws := rfl
@[simp] theorem emit_charlieVal (v : OutVec) (s : State) : (emit v s).charlieVal = s.charlieVal := rfl
@[simp] theorem emit_ssdVal (v : OutVec) (s : State) : (emit v s).ssdVal = s.ssdVal := rfl
@[simp] theorem emit_ssdDot (v : OutVec) (s : State) : (emit v s).ssdDot = s.ssdDot := rfl
@[simp] theorem emit_cursor (v : OutVec) (s : State) : (emit v s).cursor = s.cursor := rfl
@[simp] theorem emit_mode (v : OutVec) (s : State) : (emit v s).mode = s.mode := rfl
@[simp] theorem emit_tie (v : OutVec) (s : State) : (emit v s).tie = s.tie := rfl
@[simp] theorem emit_period (v : OutVec) (s : State) : (emit v s).period = s.period := rfl
@[simp] theorem emit_tcnt (v : OutVec) (s : State) : (emit v s).tcnt = s.tcnt := rfl
@[simp] theorem emit_pend (v : OutVec) (s : State) : (emit v s).pend = s.pend := rfl
@[simp] theorem emit_ovr (v : OutVec) (s : State) : (emit v s).ovr = s.ovr := rfl
@[simp] theorem emit_fault (v : OutVec) (s : State) : (emit v s).fault = s.fault := rfl
@[simp] theorem emit_cause (v : OutVec) (s : State) : (emit v s).cause = s.cause := rfl
@[simp] theorem emit_pins (v : OutVec) (s : State) : (emit v s).pins = pinsAfter s.pins v := rfl
@[simp] theorem emit_seg (v : OutVec) (s : State) : (emit v s).seg = segAfter s.seg v := rfl
@[simp] theorem emit_dig (v : OutVec) (s : State) : (emit v s).dig = digAfter s.dig v := rfl
@[simp] theorem emit_trace (v : OutVec) (s : State) : (emit v s).trace = s.trace ++ [v] := rfl

end Sys2Proof.Machine
end

