-- ==== Sys2Proof/Laws/Ops.lean ====
section
/-!
SUPPORT. One lemma per shared operation that says everything it can do, for later proofs to cite instead of unfolding
the operation.
-/
namespace Sys2Proof.Machine

/-- A turn changes only the schedule's own fields. -/
theorem nextTurn_snd (s : State) : ∃ a n, (nextTurn s).2 = (s.withAgenda a).withDraws n := by
  unfold nextTurn
  split
  · exact ⟨s.agenda, s.draws + 1, rfl⟩
  · rename_i rest _
    exact ⟨rest, s.draws, rfl⟩

theorem ifVariant_next {v : Variant} {s t : State} {k : Result} (h : ifVariant v s k = .next t) :
    (s.params.variant = v ∧ k = .next t) ∨ (s.params.variant ≠ v ∧ t = raiseFault .variantMismatch s) := by
  unfold ifVariant at h
  split_ifs at h with hv
  · exact .inl ⟨hv, h⟩
  · cases h; exact .inr ⟨hv, rfl⟩

theorem ifIndex_next {v : Variant} {i : Byte} {s t : State} {k : Result} (h : ifIndex v i s k = .next t) :
    (i.toNat < v.nslots ∧ k = .next t) ∨ (v.nslots ≤ i.toNat ∧ t = raiseFault .badIndex s) := by
  unfold ifIndex at h
  split_ifs at h with hi
  · exact .inl ⟨hi, h⟩
  · cases h; exact .inr ⟨not_lt.1 hi, rfl⟩

theorem ifIdle_next {s t : State} {k : Result} (h : ifIdle s k = .next t) :
    (s.mode = .idle ∧ k = .next t) ∨ (s.mode ≠ .idle ∧ t = raiseFault .cfgLocked s) := by
  unfold ifIdle at h
  split_ifs at h with hm
  · exact .inl ⟨hm, h⟩
  · cases h; exact .inr ⟨hm, rfl⟩

/-- Everything a command can do to the state, its guards included: a recorded fault (for a known reason), or the one
register write of its rule. -/
inductive CommandEffect (s : State) : Instr → State → Prop where
  | nop : CommandEffect s .nop s
  | cfgper (p : Half) (h : s.mode = .idle) : CommandEffect s (.cfgper p) (s.withPeriod p)
  | cfgperLocked (p : Half) (h : s.mode ≠ .idle) : CommandEffect s (.cfgper p) (raiseFault .cfgLocked s)
  | start (h : s.mode = .idle) (hp : s.period ≠ 0#16) :
      CommandEffect s .start ((s.withMode .running).withTcnt 0#16)
  | startInvalid (h : s.mode = .idle) (hp : s.period = 0#16) :
      CommandEffect s .start (raiseFault .configError (s.withMode .faulted))
  | startLocked (h : s.mode ≠ .idle) : CommandEffect s .start (raiseFault .cfgLocked s)
  | tie (b : Bool) : CommandEffect s (.tie b) (s.withTie b)
  | setpat (i : Byte) (b : Bool) (hv : s.params.variant = .charlie) (hi : i.toNat < 6) :
      CommandEffect s (.setpat i b) (s.withCharlieVal (setBit s.charlieVal i.toNat b))
  | setmask (m : Byte) (hv : s.params.variant = .charlie) : CommandEffect s (.setmask m) (s.withCharlieVal m)
  | setdig (i v : Byte) (hv : s.params.variant = .ssd) (hi : i.toNat < 4) :
      CommandEffect s (.setdig i v) (s.withSsdVal (s.ssdVal.setIfInBounds i.toNat v))
  | setdp (i : Byte) (b : Bool) (hv : s.params.variant = .ssd) (hi : i.toNat < 4) :
      CommandEffect s (.setdp i b) (s.withSsdDot (s.ssdDot.setIfInBounds i.toNat b))
  | setpatMismatch (i : Byte) (b : Bool) (hv : s.params.variant ≠ .charlie) :
      CommandEffect s (.setpat i b) (raiseFault .variantMismatch s)
  | setpatIndex (i : Byte) (b : Bool) (hv : s.params.variant = .charlie) (hi : 6 ≤ i.toNat) :
      CommandEffect s (.setpat i b) (raiseFault .badIndex s)
  | setmaskMismatch (m : Byte) (hv : s.params.variant ≠ .charlie) :
      CommandEffect s (.setmask m) (raiseFault .variantMismatch s)
  | setdigMismatch (i v : Byte) (hv : s.params.variant ≠ .ssd) :
      CommandEffect s (.setdig i v) (raiseFault .variantMismatch s)
  | setdigIndex (i v : Byte) (hv : s.params.variant = .ssd) (hi : 4 ≤ i.toNat) :
      CommandEffect s (.setdig i v) (raiseFault .badIndex s)
  | setdpMismatch (i : Byte) (b : Bool) (hv : s.params.variant ≠ .ssd) :
      CommandEffect s (.setdp i b) (raiseFault .variantMismatch s)
  | setdpIndex (i : Byte) (b : Bool) (hv : s.params.variant = .ssd) (hi : 4 ≤ i.toNat) :
      CommandEffect s (.setdp i b) (raiseFault .badIndex s)

/-- Every command answers a next state, and that state is one `CommandEffect` lists. -/
theorem exec_effect (i : Instr) (s : State) : ∃ t, exec i s = .next t ∧ CommandEffect s i t := by
  cases i with
  | nop => exact ⟨_, rfl, .nop⟩
  | cfgper p =>
    by_cases h : s.mode = .idle
    · exact ⟨s.withPeriod p, by simp [exec, execCfgper, ifIdle, h], .cfgper p h⟩
    · exact ⟨raiseFault .cfgLocked s, by simp [exec, execCfgper, ifIdle, h, raise], .cfgperLocked p h⟩
  | start =>
    by_cases h : s.mode = .idle
    · by_cases hp : s.period = 0#16
      · exact ⟨raiseFault .configError (s.withMode .faulted), by simp [exec, execStart, ifIdle, h, hp, raise],
          .startInvalid h hp⟩
      · exact ⟨(s.withMode .running).withTcnt 0#16, by simp [exec, execStart, ifIdle, h, hp], .start h hp⟩
    · exact ⟨raiseFault .cfgLocked s, by simp [exec, execStart, ifIdle, h, raise], .startLocked h⟩
  | tie b => exact ⟨_, rfl, .tie b⟩
  | setpat j b =>
    by_cases hv : s.params.variant = .charlie
    · by_cases hj : j.toNat < 6
      · exact ⟨s.withCharlieVal (setBit s.charlieVal j.toNat b),
          by simp [exec, execSetpat, ifVariant, ifIndex, Variant.nslots, hv, hj], .setpat j b hv hj⟩
      · exact ⟨raiseFault .badIndex s,
          by simp [exec, execSetpat, ifVariant, ifIndex, Variant.nslots, hv, hj, raise],
          .setpatIndex j b hv (not_lt.1 hj)⟩
    · exact ⟨raiseFault .variantMismatch s, by simp [exec, execSetpat, ifVariant, hv, raise],
        .setpatMismatch j b hv⟩
  | setmask m =>
    by_cases hv : s.params.variant = .charlie
    · exact ⟨s.withCharlieVal m, by simp [exec, execSetmask, ifVariant, hv], .setmask m hv⟩
    · exact ⟨raiseFault .variantMismatch s, by simp [exec, execSetmask, ifVariant, hv, raise],
        .setmaskMismatch m hv⟩
  | setdig j v =>
    by_cases hv : s.params.variant = .ssd
    · by_cases hj : j.toNat < 4
      · exact ⟨s.withSsdVal (s.ssdVal.setIfInBounds j.toNat v),
          by simp [exec, execSetdig, ifVariant, ifIndex, Variant.nslots, hv, hj], .setdig j v hv hj⟩
      · exact ⟨raiseFault .badIndex s,
          by simp [exec, execSetdig, ifVariant, ifIndex, Variant.nslots, hv, hj, raise],
          .setdigIndex j v hv (not_lt.1 hj)⟩
    · exact ⟨raiseFault .variantMismatch s, by simp [exec, execSetdig, ifVariant, hv, raise],
        .setdigMismatch j v hv⟩
  | setdp j b =>
    by_cases hv : s.params.variant = .ssd
    · by_cases hj : j.toNat < 4
      · exact ⟨s.withSsdDot (s.ssdDot.setIfInBounds j.toNat b),
          by simp [exec, execSetdp, ifVariant, ifIndex, Variant.nslots, hv, hj], .setdp j b hv hj⟩
      · exact ⟨raiseFault .badIndex s,
          by simp [exec, execSetdp, ifVariant, ifIndex, Variant.nslots, hv, hj, raise],
          .setdpIndex j b hv (not_lt.1 hj)⟩
    · exact ⟨raiseFault .variantMismatch s, by simp [exec, execSetdp, ifVariant, hv, raise],
        .setdpMismatch j b hv⟩

/-- The inversion of `exec`. -/
theorem exec_next {i : Instr} {s t : State} (h : exec i s = .next t) : CommandEffect s i t := by
  obtain ⟨u, hu, he⟩ := exec_effect i s
  rw [hu] at h
  cases h
  exact he

/-- What HOST's step can do: a word the decoder rejects records its cause, any other is a command of the instance's
variant with an index in range. -/
theorem hostStep_next {w : Word} {s t : State} (h : hostStep w s = .next t) :
    (∃ c, decodeFor s.params.variant w = .error c ∧ t = raiseFault c s) ∨
      ∃ i, decodeFor s.params.variant w = .ok i ∧ exec i s = .next t := by
  unfold hostStep at h
  split at h
  · rename_i c hc
    cases h
    exact .inl ⟨c, hc, rfl⟩
  · rename_i i hi
    exact .inr ⟨i, hi, h⟩

/-- HOST's step always answers a next state. -/
theorem hostStep_completes (w : Word) (s : State) : ∃ t, hostStep w s = .next t := by
  unfold hostStep
  split
  · exact ⟨_, rfl⟩
  · rename_i i _
    obtain ⟨t, ht, -⟩ := exec_effect i s
    exact ⟨t, ht⟩

/-- What `TCLK` can do: nothing outside RUNNING; inside, an event at the period's last count, else one count. -/
theorem tclk_next {s t : State} (h : tclk s = .next t) :
    (s.mode ≠ .running ∧ t = s) ∨
      (s.mode = .running ∧ s.tcnt < s.period ∧ s.tcnt = s.period - 1#16 ∧ t = timerEvent (s.withTcnt 0#16)) ∨
        (s.mode = .running ∧ s.tcnt < s.period ∧ s.tcnt ≠ s.period - 1#16 ∧ t = s.withTcnt (s.tcnt + 1#16)) := by
  unfold tclk at h
  split_ifs at h with hm hp he
  · cases h; exact .inr (.inl ⟨hm, hp, he, rfl⟩)
  · cases h; exact .inr (.inr ⟨hm, hp, he, rfl⟩)
  · cases h; exact .inl ⟨hm, rfl⟩

/-- What `TICK` can do: it emits the neutral vector, then a drive, and advances; the drive is the slot's. -/
theorem tick_next {s t : State} (h : tick s = .next t) :
    (s.params.variant = .charlie ∧ ∃ e ps, memRead s.params (romCharlie + s.cursor.setWidth 8) = some e ∧
        charlieDrive s.charlieVal s.cursor e = some ps ∧
        t = finishTick (.charlie Pins.allZ) (.charlie ps) s) ∨
      (s.params.variant = .ssd ∧ ∃ d dp g, s.ssdVal[s.cursor.toNat]? = some d ∧ s.ssdDot[s.cursor.toNat]? = some dp ∧
        segmentsFor s.params d = some g ∧
        t = finishTick (.ssd 0x00#8 0b0000#4) (.ssd (withDp g dp) (1#4 <<< s.cursor.toNat)) s) := by
  unfold tick at h
  cases hv : s.params.variant with
  | charlie =>
    simp only [hv, tickCharlie] at h
    cases he : memRead s.params (romCharlie + s.cursor.setWidth 8) with
    | none => simp [he] at h
    | some e =>
      cases hd : charlieDrive s.charlieVal s.cursor e with
      | none => simp [he, hd] at h
      | some ps =>
        simp only [he, hd, Host.Outcome.next.injEq] at h
        exact .inl ⟨rfl, e, ps, rfl, hd, h.symm⟩
  | ssd =>
    simp only [hv, tickSsd] at h
    cases hd : s.ssdVal[s.cursor.toNat]? with
    | none => simp [hd] at h
    | some d =>
      cases hp : s.ssdDot[s.cursor.toNat]? with
      | none => simp [hd, hp] at h
      | some dp =>
        cases hg : segmentsFor s.params d with
        | none => simp [hd, hp, hg] at h
        | some g =>
          simp only [hd, hp, hg, Host.Outcome.next.injEq] at h
          exact .inr ⟨rfl, d, dp, g, rfl, rfl, hg, h.symm⟩

/-- Everything one agent's step can do after RESET, its guards included. -/
inductive AgentEffect (s : State) : AgentStep → State → Prop where
  | rejected (w : Word) (c : Cause) (h : decodeFor s.params.variant w = .error c) :
      AgentEffect s (.host w) (raiseFault c s)
  | command (w : Word) (i : Instr) (t : State) (h : decodeFor s.params.variant w = .ok i)
      (he : CommandEffect s i t) : AgentEffect s (.host w) t
  | notCounting (h : s.mode ≠ .running) : AgentEffect s .timer s
  | event (h : s.mode = .running) (hp : s.tcnt < s.period) (he : s.tcnt = s.period - 1#16) :
      AgentEffect s .timer (timerEvent (s.withTcnt 0#16))
  | count (h : s.mode = .running) (hp : s.tcnt < s.period) (he : s.tcnt ≠ s.period - 1#16) :
      AgentEffect s .timer (s.withTcnt (s.tcnt + 1#16))
  | idleEngine (h : tickEnabled s = false) : AgentEffect s .engine s
  | tickCharlie (e : Byte) (ps : Pins) (h : tickEnabled s = true) (hv : s.params.variant = .charlie)
      (he : memRead s.params (romCharlie + s.cursor.setWidth 8) = some e)
      (hd : charlieDrive s.charlieVal s.cursor e = some ps) :
      AgentEffect s .engine (finishTick (.charlie Pins.allZ) (.charlie ps) s)
  | tickSsd (d : Byte) (dp : Bool) (g : Byte) (h : tickEnabled s = true) (hv : s.params.variant = .ssd)
      (hd : s.ssdVal[s.cursor.toNat]? = some d) (hp : s.ssdDot[s.cursor.toNat]? = some dp)
      (hg : segmentsFor s.params d = some g) :
      AgentEffect s .engine
        (finishTick (.ssd 0x00#8 0b0000#4) (.ssd (withDp g dp) (1#4 <<< s.cursor.toNat)) s)
  | resetPasses : AgentEffect s .reset s

/-- The inversion of `perform`. -/
theorem perform_next {e : AgentStep} {s t : State} (h : perform e s = .next t) : AgentEffect s e t := by
  cases e with
  | host w =>
    rcases hostStep_next h with ⟨c, hc, rfl⟩ | ⟨i, hi, hx⟩
    · exact .rejected w c hc
    · exact .command w i t hi (exec_next hx)
  | timer =>
    rcases tclk_next h with ⟨hm, rfl⟩ | ⟨hm, hp, he, rfl⟩ | ⟨hm, hp, he, rfl⟩
    · exact .notCounting hm
    · exact .event hm hp he
    · exact .count hm hp he
  | engine =>
    simp only [perform, engineStep] at h
    split_ifs at h with he
    · rcases tick_next h with ⟨hv, e, ps, h1, h2, rfl⟩ | ⟨hv, d, dp, g, h1, h2, h3, rfl⟩
      · exact .tickCharlie e ps he hv h1 h2
      · exact .tickSsd d dp g he hv h1 h2 h3
    · cases h
      exact .idleEngine (by simpa using he)
  | reset => cases h; exact .resetPasses

/-- A word accepted in one variant is accepted without regard to the variant, as the same command. -/
theorem decode_of_decodeFor {v : Variant} {w : Word} {i : Instr} (h : decodeFor v w = .ok i) : decode w = .ok i := by
  unfold decodeFor at h
  split at h
  · cases h
  · rename_i op hop
    split_ifs at h with h1 h2 h3
    cases h
    exact decode_ok.2 ⟨op, ofByte_eq_some.1 hop, not_not.1 h2, rfl⟩

/-- A rejected word is rejected for a reason (R127). -/
theorem decodeFor_error {v : Variant} {w : Word} {c : Cause} (h : decodeFor v w = .error c) : c ≠ .none := by
  unfold decodeFor at h
  split at h
  · cases h; decide
  · split_ifs at h <;> cases h <;> decide

/-- What a step can do: an elaborated instance takes an agent's turn, before or after RESET. -/
theorem step_next {s t : State} (h : step s = .next t) :
    s.params.legal = true ∧
      ((s.booted = true ∧ legalState s = true ∧ perform (nextTurn s).1 (nextTurn s).2 = .next t) ∨
        (s.booted = false ∧ t = beforeReset (nextTurn s).1 (nextTurn s).2)) := by
  unfold step advance at h
  split_ifs at h with hp hb hl
  · exact ⟨hp, .inl ⟨hb, hl, h⟩⟩
  · cases h; exact ⟨hp, .inr ⟨by simpa using hb, rfl⟩⟩

/-- Bit `k` of a byte with bit `i` written (R119). -/
theorem getLsbD_setBit (v : Byte) {i k : Nat} (b : Bool) (hk : k < 8) :
    (setBit v i b).getLsbD k = if k = i then b else v.getLsbD k := by
  unfold setBit
  by_cases h : k = i
  · subst h; cases b <;> simp [hk]
  · rw [if_neg h]
    cases b
    · simp only [Bool.false_eq_true, if_false, BitVec.getLsbD_and, BitVec.getLsbD_not, BitVec.getLsbD_shiftLeft,
        BitVec.getLsbD_one]
      grind
    · simp only [if_true, BitVec.getLsbD_or, BitVec.getLsbD_shiftLeft, BitVec.getLsbD_one]
      grind

/-- The step of an elaborated, reset instance in a state R41 allows is its agent's step. -/
theorem step_eq_perform {s : State} (hp : s.params.legal = true) (hb : s.booted = true)
    (hl : legalState s = true) : step s = perform (nextTurn s).1 (nextTurn s).2 := by
  simp [step, advance, hp, hb, hl]

end Sys2Proof.Machine
end

