-- ==== Sys2Proof/Laws/Runs.lean ====
section
/-!
SUPPORT. Runs step by step, and the one inversion of a step of a reset instance that later proofs start from.
-/
namespace Sys2Proof.Machine

theorem runsTo_zero {s t : State} : runsTo 0 s t ↔ t = s := by
  unfold runsTo
  show Host.Outcome.next s = Host.Outcome.next t ↔ t = s
  exact ⟨fun h => by cases h; rfl, fun h => by rw [h]⟩

/-- A run of one step more is a step and a run. -/
theorem runsTo_succ {k : Nat} {s t : State} : runsTo (k + 1) s t ↔ ∃ u, step s = .next u ∧ runsTo k u t := by
  simp only [runsTo, Host.Core.run]
  have hstep : Sys2Proof.core.step s = step s := rfl
  rw [hstep]
  cases h : step s with
  | next u => exact ⟨fun hr => ⟨u, rfl, hr⟩, by rintro ⟨v, hv, hr⟩; cases hv; exact hr⟩
  | fault r => exact ⟨nofun, by rintro ⟨v, hv, -⟩; cases hv⟩
  | refused r => exact ⟨nofun, by rintro ⟨v, hv, -⟩; cases hv⟩

/-- The step of a reset instance is one agent's effect on the state with its turn taken. -/
theorem step_effect {s t : State} (hb : s.booted = true) (h : step s = .next t) :
    ∃ a n, (nextTurn s).2 = (s.withAgenda a).withDraws n ∧ steps s = true ∧
      AgentEffect ((s.withAgenda a).withDraws n) (nextTurn s).1 t := by
  obtain ⟨hp, ⟨-, hl, hperf⟩ | ⟨hb', -⟩⟩ := step_next h
  · obtain ⟨a, n, hu⟩ := nextTurn_snd s
    rw [hu] at hperf
    exact ⟨a, n, hu, by simp [steps, hp, hb, hl], perform_next hperf⟩
  · simp [hb] at hb'

/-- The invariant gives every guard of the step. -/
theorem Invariant.steps {s : State} (h : Invariant s) : steps s = true := by
  have hl : legalState s = true := by
    have h1 := h.cursorRange
    have h2 := h.causeFault
    simp only [legalState, Bool.and_eq_true, decide_eq_true_eq, beq_iff_eq]
    refine ⟨h1, ?_⟩
    cases hf : s.fault <;> cases hc : s.cause <;> simp_all
  simp [Machine.steps, h.paramsLegal, h.booted, hl]

/-- Taking a turn keeps the invariant, which says nothing of the schedule. -/
theorem Invariant.scheduled {s : State} (h : Invariant s) (a : List AgentStep) (n : Nat) :
    Invariant ((s.withAgenda a).withDraws n) :=
  ⟨h.paramsLegal, h.booted, h.cursorRange, h.causeFault, h.counting, h.notCounting, h.outputsLast, h.oneSlot⟩

end Sys2Proof.Machine
end

