-- ==== Sys2Proof/Tests/Slice0.lean ====
section
/-!
SUPPORT. The model's own tests. Expected values are those of 95_test_vectors.md (named by their ids) or read off the
rule cited. The theorems `test_witness_…` show that the hypotheses of a statement of the obligations can be met, at
the boundary values of each clause.
-/
namespace Sys2Proof.Machine

/-! ### Small states -/

/-- A CHARLIE instance after reset. -/
def tCharlie : State := State.resetOf (Params.default .charlie)

/-- An SSD instance after reset. -/
def tSsd : State := State.resetOf (Params.default .ssd)

/-- RUNNING with a period, everything else as after reset. -/
def tRunning (v : Variant) (period : Half) : State :=
  { State.resetOf (Params.default v) with mode := .running, period := period }

/-- FAULTED by CONFIG_ERROR. -/
def tFaulted : State := { tCharlie with mode := .faulted, fault := true, cause := .configError }

/-- RUNNING with a tick pending at cursor `c`, all LEDs as given. -/
def tTickC (v : Byte) (c : BitVec 3) : State :=
  { tRunning .charlie 3#16 with pend := true, charlieVal := v, cursor := c }

/-- RUNNING with a tick pending at cursor `c`, digits and points as given. -/
def tTickS (d : Vector Byte 4) (p : Vector Bool 4) (c : BitVec 3) : State :=
  { tRunning .ssd 3#16 with pend := true, ssdVal := d, ssdDot := p, cursor := c }

/-- The state after an outcome that is a next state; `s` otherwise. -/
def tEnd (s : State) : Result → State
  | .next t => t
  | .fault _ => s
  | .refused _ => s

/-- The state after one HOST step. -/
def tHost (w : Word) (s : State) : State := tEnd s (hostStep w s)

/-- The state after one TICK. -/
def tTick (s : State) : State := tEnd s (tick s)

/-- The state after one TCLK. -/
def tTclk (s : State) : State := tEnd s (tclk s)

/-- What one HOST step leaves in FAULT and CAUSE. -/
def tCause (w : Word) (s : State) : Bool × Cause := ((tHost w s).fault, (tHost w s).cause)

/-! ### Well-formedness smoke: each check refuses an ill-formed term -/

theorem test_wf_setpat : (Instr.setpat 5#8 true).wellFormed = true ∧ (Instr.setpat 6#8 true).wellFormed = false := by
  decide
theorem test_wf_setdig : (Instr.setdig 3#8 9#8).wellFormed = true ∧ (Instr.setdig 4#8 9#8).wellFormed = false := by
  decide
theorem test_wf_setdp : (Instr.setdp 3#8 true).wellFormed = true ∧ (Instr.setdp 4#8 true).wellFormed = false := by
  decide

/-! ### Decoding: words written out bit by bit, OP IDX DATA (R62, R68) -/

theorem test_decode_nop :
    decodeTableWord 32 0b00000000_00000000_0000000000000000 = some .nop := by decide
theorem test_decode_cfgper :
    decodeTableWord 32 0b00000001_00000000_0000101110111000 = some (.cfgper 3000#16) := by decide
theorem test_decode_start :
    decodeTableWord 32 0b00000010_00000000_0000000000000000 = some .start := by decide
theorem test_decode_tie :
    decodeTableWord 32 0b00000011_00000000_0000000000000001 = some (.tie true) := by decide
theorem test_decode_setpat :
    decodeTableWord 32 0b00010000_00000101_0000000000000001 = some (.setpat 5#8 true) := by decide
theorem test_decode_setmask :
    decodeTableWord 32 0b00010001_00000000_0000000000111111 = some (.setmask 0x3F#8) := by decide
theorem test_decode_setdig :
    decodeTableWord 32 0b00100000_00000010_0000000000000111 = some (.setdig 2#8 7#8) := by decide
theorem test_decode_setdp :
    decodeTableWord 32 0b00100001_00000001_0000000000000001 = some (.setdp 1#8 true) := by decide
/-- FT1, FT2, FT3: unmapped opcodes; FT4, FT7: reserved bits. -/
theorem test_decode_refused :
    decodeTableWord 32 0x04000000 = none ∧ decodeTableWord 32 0xFF000000 = none ∧
      decodeTableWord 32 0x12000000 = none ∧ decodeTableWord 32 0x00000001 = none ∧
      decodeTableWord 32 0x03000002 = none := by decide
/-- H2, H8, H14: the encoder's words. -/
theorem test_encode_words :
    encode (.cfgper 3000#16) = 0x01000BB8#32 ∧ encode (.setpat 5#8 true) = 0x10050001#32 ∧
      encode (.setdp 1#8 true) = 0x21010001#32 := by decide

/-! ### Host commands, one step each -/

/-- H1. -/
theorem test_nop : hostStep 0x00000000#32 tCharlie = .next tCharlie := rfl
/-- H2, H4: a period is stored, 0 too. -/
theorem test_cfgper :
    (tHost 0x01000BB8#32 tCharlie).period = 3000#16 ∧
      tHost 0x01000000#32 (tCharlie.withPeriod 3000#16) = tCharlie := by decide
/-- FT20: CFGPER while running. -/
theorem test_cfgper_locked :
    tCause 0x01000BB8#32 (tRunning .charlie 3#16) = (true, .cfgLocked) ∧
      (tHost 0x01000BB8#32 (tRunning .charlie 3#16)).period = 3#16 := by decide
/-- H5. -/
theorem test_start :
    (tHost 0x02000000#32 (tSsd.withPeriod 7000#16)).mode = .running ∧
      statusWord (tHost 0x02000000#32 (tSsd.withPeriod 7000#16)) = 0x0005#16 := by decide
/-- FT19. -/
theorem test_start_without_period :
    (tHost 0x02000000#32 tCharlie).mode = .faulted ∧
      statusWord (tHost 0x02000000#32 tCharlie) = 0x0166#16 := by decide
/-- H6, H7. -/
theorem test_tie :
    (tHost 0x03000000#32 tCharlie).tie = false ∧
      (tHost 0x03000001#32 (tCharlie.withTie false)).tie = true := by decide
/-- H8, H9. -/
theorem test_setpat :
    (tHost 0x10050001#32 (tCharlie.withCharlieVal 0x01#8)).charlieVal = 0x21#8 ∧
      (tHost 0x10000000#32 (tCharlie.withCharlieVal 0x21#8)).charlieVal = 0x20#8 := by decide
/-- FT15, FT16, FT11. -/
theorem test_setpat_faults :
    tCause 0x10060001#32 tCharlie = (true, .badIndex) ∧ tCause 0x10060002#32 tCharlie = (true, .reservedBits) ∧
      tCause 0x10000001#32 tSsd = (true, .variantMismatch) := by decide
/-- H11, H16. -/
theorem test_setmask :
    (tHost 0x110000C0#32 tCharlie).charlieVal = 0xC0#8 ∧ (tHost 0x11000001#32 tFaulted).charlieVal = 0x01#8 := by decide
/-- H12, H13. -/
theorem test_setdig :
    (tHost 0x20030001#32 tSsd).ssdVal = #v[0#8, 0#8, 0#8, 1#8] ∧
      (tHost 0x200000FF#32 tSsd).ssdVal = #v[255#8, 0#8, 0#8, 0#8] := by decide
/-- FT17, FT10, FT13. -/
theorem test_setdig_faults :
    tCause 0x20040000#32 tSsd = (true, .badIndex) ∧ tCause 0x20000100#32 tSsd = (true, .reservedBits) ∧
      tCause 0x20000009#32 tCharlie = (true, .variantMismatch) := by decide
/-- H14, FT18. -/
theorem test_setdp :
    (tHost 0x21010001#32 tSsd).ssdDot = #v[false, true, false, false] ∧
      tCause 0x21FF0001#32 tSsd = (true, .badIndex) := by decide
/-- FT12, FT6: the order of the checks. -/
theorem test_check_order :
    tCause 0x10FF0003#32 tSsd = (true, .variantMismatch) ∧
      tCause 0x02000001#32 (tRunning .charlie 3#16) = (true, .reservedBits) := by decide
/-- FT22, FT23: the first fault's cause stays. -/
theorem test_first_fault_wins :
    tCause 0x01000BB8#32 tFaulted = (true, .configError) ∧ tCause 0xFF000000#32 tFaulted = (true, .configError) := by
  decide
/-- The reference table of status words. -/
theorem test_status_words :
    statusWord tCharlie = 0x0004#16 ∧ statusWord (tRunning .ssd 1#16) = 0x0005#16 ∧
      statusWord ((tRunning .ssd 1#16).withCursor 1#3) = 0x0405#16 ∧
      statusWord ((tRunning .ssd 1#16).withPend true) = 0x000D#16 ∧
      statusWord (raiseFault .badIndex tCharlie) = 0x0124#16 := by decide

/-! ### TICK, TCLK, RESET -/

/-- CH5, CH7: a slot on, with the wrap. -/
theorem test_tick_charlie :
    (tTick (tTickC 0x20#8 5#3)).pins = { p0 := .L, p1 := .Z, p2 := .H } ∧ (tTick (tTickC 0x20#8 5#3)).cursor = 0#3 ∧
      (tTick (tTickC 0x3F#8 2#3)).pins = { p0 := .Z, p1 := .H, p2 := .L } := by decide
/-- CH3, CH4, CH10: bits 7:6 are ignored; a slot off. -/
theorem test_tick_charlie_off :
    (tTick (tTickC 0xC0#8 2#3)).pins = Pins.allZ ∧ (tTick (tTickC 0x01#8 1#3)).pins = Pins.allZ ∧
      (tTick (tTickC 0xFF#8 4#3)).pins = { p0 := .H, p1 := .Z, p2 := .L } := by decide
/-- S2, S3. -/
theorem test_tick_ssd :
    (tTick (tTickS #v[3#8, 9#8, 9#8, 9#8] #v[false, true, false, false] 1#3)).trace =
        [.ssd 0x00#8 0b0000#4, .ssd 0x00#8 0b0000#4, .ssd 0xF7#8 0b0010#4] ∧
      outputs (tTick (tTickS #v[1#8, 2#8, 3#8, 4#8] (Vector.replicate 4 false) 3#3)) = .ssd 0x66#8 0b1000#4 := by decide
/-- S4, S5: blank digits. -/
theorem test_tick_ssd_blank :
    outputs (tTick (tTickS (Vector.replicate 4 0xFF#8) (Vector.replicate 4 false) 2#3)) = .ssd 0x00#8 0b0100#4 ∧
      outputs (tTick (tTickS (Vector.replicate 4 10#8) #v[false, false, true, false] 2#3)) =
        .ssd 0x01#8 0b0100#4 := by decide
/-- T1, T3. -/
theorem test_tclk :
    (tTclk (tRunning .ssd 3#16)).tcnt = 1#16 ∧
      tTclk ((tRunning .ssd 3#16).withTcnt 2#16) = (tRunning .ssd 3#16).withPend true := by decide
/-- T5, T7. -/
theorem test_tclk_overrun :
    (tTclk ((tRunning .ssd 1#16).withPend true)).ovr = true ∧
      (tTclk ((tRunning .ssd 0xFFFF#16).withTcnt 0xFFFE#16)).tcnt = 0#16 := by decide
/-- RS4. -/
theorem test_reset_blank :
    (State.resetOf { Params.default .ssd with ssdValReset := 0xFF#8 }).ssdVal = Vector.replicate 4 255#8 := by decide
/-- The machine's own word of a step from reset: H10 as the first instruction after reset. -/
theorem test_first_step :
    step (State.reset.withFetchWord 32 0x1100003F) = .next { State.reset with charlieVal := 0x3F#8 } := rfl

/-! ### Elaboration, observation, the timing figures and the assembler -/

/-- R13: a legal instance, a wrong name, a wrong slot count. -/
theorem test_elaborate :
    elaborate "SSD" 4 defaultGlyphRom defaultCharlieMap 0#8 = .ok (Params.default .ssd) ∧
      elaborate "LCD" 4 defaultGlyphRom defaultCharlieMap 0#8 = .error .illegalElaboration ∧
      elaborate "CHARLIE" 4 defaultGlyphRom defaultCharlieMap 0#8 = .error .illegalElaboration := ⟨rfl, rfl, rfl⟩
/-- R100, R13: a repeated pair, an ill-formed entry, a glyph with bit 0. -/
theorem test_elaborate_tables :
    charlieMapOk #v[0x44#8, 0x44#8, 0x09#8, 0x19#8, 0x28#8, 0x38#8] = false ∧
      charlieMapOk #v[0x40#8, 0x54#8, 0x09#8, 0x19#8, 0x28#8, 0x38#8] = false ∧
      glyphRomOk (defaultGlyphRom.set 0 0xFD#8) = false := by decide
/-- R15. -/
theorem test_observation : ObservationPoint tCharlie ∧ ¬ ObservationPoint tFaulted := by
  constructor <;> simp [ObservationPoint, tCharlie, tFaulted, State.resetOf]
/-- E9. -/
theorem test_cycle_tclks :
    cycleTclks .charlie (recommendedPeriod .charlie) = 18000 ∧ cycleTclks .ssd (recommendedPeriod .ssd) = 28000 := by
  decide
/-- R95: segment C of the digit 2 is not lit, segment D is. -/
theorem test_segments : segmentLit 0xDA#8 .C = false ∧ segmentLit 0xDA#8 .D = true := by decide
/-- P1 and P2, lines of text. -/
theorem test_assembler :
    assembleLine "CFGPER #3000 ; boot".toList = some [0x01000BB8#32] ∧
      assembleLine "SETDIG 3, #0x1".toList = some [0x20030001#32] ∧
      assembleLine "SETNUM #1000".toList =
        some [0x03000000#32, 0x20000000#32, 0x20010000#32, 0x20020000#32, 0x20030001#32, 0x03000001#32] := by decide
/-- R74: operands out of range, and the directive. -/
theorem test_assembler_refuses :
    assembleLine "SETPAT 6, #1".toList = none ∧ assembleLine "TIE #2".toList = none ∧
      assembleLine ".word 0x10060001".toList = some [0x10060001#32] := by decide

/-! ### Witnesses: states and operands that meet the statements' hypotheses -/

/-- Meets the hypotheses of `StepRunsDecodedCommand` and `StepTakesNextTurn` (an agenda, and none). -/
theorem test_witness_step :
    (deliver 0x10050001#32 tCharlie).params.legal = true ∧ (deliver 0x10050001#32 tCharlie).booted = true ∧
      legalState (deliver 0x10050001#32 tCharlie) = true ∧
      (deliver 0x10050001#32 tCharlie).agenda = [.host 0x10050001#32] ∧
      decode 0x10050001#32 = .ok (.setpat 5#8 true) ∧ tCharlie.agenda = [] ∧ legalState tCharlie = true :=
  ⟨by decide, rfl, rfl, rfl, rfl, rfl, rfl⟩

/-- `RuledOutStateStops`: each of the three ways, at the first cursor out of range. -/
theorem test_witness_ruled_out :
    (∀ s ∈ [tCharlie.withCursor 6#3, tSsd.withCursor 4#3, { tCharlie with fault := true }],
      s.params.legal = true ∧ s.booted = true) ∧
      (tCharlie.withCursor 6#3).params.variant = .charlie ∧ 6 ≤ (tCharlie.withCursor 6#3).cursor.toNat ∧
      (tSsd.withCursor 4#3).params.variant = .ssd ∧ 4 ≤ (tSsd.withCursor 4#3).cursor.toNat ∧
      ¬ (({ tCharlie with fault := true } : State).cause = .none ↔ ({ tCharlie with fault := true } : State).fault = false) := by
  decide

/-- `OnlyRefusal`: both sides occur. -/
theorem test_witness_refusal :
    step { tCharlie with params := { Params.default .charlie with nslots := 4 } } = .refused .illegalElaboration ∧
      step (deliver 0#32 tCharlie) = .next tCharlie := ⟨rfl, rfl⟩

/-- `DecodeThenEncode`: an accepted word. -/
theorem test_witness_decode : decode 0x21FF0001#32 = .ok (.setdp 255#8 true) := rfl

/-- A state before RESET, with arbitrary contents. -/
def tUnbooted (e : AgentStep) : State :=
  { tTickS (Vector.replicate 4 7#8) (Vector.replicate 4 true) 3#3 with booted := false, agenda := [e, .timer] }

/-- `ResetStep`, and both clauses of `ResetOnlyOnce` with an agenda. -/
theorem test_witness_reset :
    (tUnbooted .reset).params.legal = true ∧ (tUnbooted .reset).booted = false ∧
      (tUnbooted .reset).agenda = [.reset, .timer] ∧ AgentStep.timer ≠ .reset ∧
      (tUnbooted .timer).agenda = [.timer, .timer] ∧ legalState (tCharlie.withAgenda [.reset]) = true ∧
      (tCharlie.withAgenda [.reset]).agenda = [.reset] ∧ (tCharlie.withAgenda [.reset]).booted = true ∧
      step (tCharlie.withAgenda [.reset]) = .next tCharlie := ⟨by decide, rfl, rfl, by decide, rfl, rfl, rfl, rfl, rfl⟩

/-- The words of the reserved-bit clauses of `NopRule` to `SetdpRule`, at the lowest reserved bit of each. -/
theorem test_witness_reserved :
    (0x00000001#32).extractLsb' 24 8 = 0x00#8 ∧ (0x00000001#32) ≠ 0x00000000#32 ∧
      (0x01010000#32).extractLsb' 24 8 = 0x01#8 ∧ (0x01010000#32).extractLsb' 16 8 ≠ 0#8 ∧
      (0x02000001#32).extractLsb' 24 8 = 0x02#8 ∧ (0x02000001#32) ≠ 0x02000000#32 ∧
      (0x03000002#32).extractLsb' 24 8 = 0x03#8 ∧ (0x03000002#32).extractLsb' 1 23 ≠ 0#23 ∧
      (0x10000002#32).extractLsb' 24 8 = 0x10#8 ∧ (0x10000002#32).extractLsb' 1 15 ≠ 0#15 ∧
      (0x11000100#32).extractLsb' 24 8 = 0x11#8 ∧ (0x11000100#32).extractLsb' 8 16 ≠ 0#16 ∧
      (0x20000100#32).extractLsb' 24 8 = 0x20#8 ∧ (0x20000100#32).extractLsb' 8 8 ≠ 0#8 ∧
      (0x21000002#32).extractLsb' 24 8 = 0x21#8 ∧ (0x21000002#32).extractLsb' 1 15 ≠ 0#15 := by decide

/-- The modes and periods of the clauses of `CfgperRule`, `StartRule` and `TieRule`; the step clause of `StartRule`. -/
theorem test_witness_modes :
    tCharlie.mode = .idle ∧ tCharlie.period = 0#16 ∧ (tCharlie.withPeriod 1#16).mode = .idle ∧
      (tCharlie.withPeriod 1#16).period ≠ 0#16 ∧ (tRunning .charlie 1#16).mode = .running ∧
      tFaulted.mode = .faulted ∧ tFaulted.booted = true ∧
      step (tFaulted.withAgenda [.timer]) = .next tFaulted ∧
      (tTickC 1#8 0#3).mode = .running ∧ (tTickC 1#8 0#3).pend = true := ⟨rfl, rfl, rfl, by decide, rfl, rfl, rfl, rfl, rfl, rfl⟩

/-- The variants and indices of the clauses of `SetpatRule` to `SetdpRule` and of `CommandsComplete`, on both sides of
the range; the cursor and blank-digit clauses. -/
theorem test_witness_indices :
    tCharlie.params.variant = .charlie ∧ tSsd.params.variant = .ssd ∧ (5#8).toNat < 6 ∧ 6 ≤ (6#8).toNat ∧
      (3#8).toNat < 4 ∧ 4 ≤ (4#8).toNat ∧ (5#3).toNat < 6 ∧ 10 ≤ (10#8).toNat := by decide

/-- `CommandsLeaveOutputs`, `CommandFrames`, `RepeatedCommand`: a command and its repetition answer next states; a step
that is no TICK. -/
theorem test_witness_commands :
    exec (.cfgper 9#16) tCharlie = .next (tCharlie.withPeriod 9#16) ∧
      exec (.cfgper 9#16) (tCharlie.withPeriod 9#16) = .next (tCharlie.withPeriod 9#16) ∧
      hostStep 0x01000009#32 tCharlie = .next (tCharlie.withPeriod 9#16) ∧
      step (deliver 0x01000009#32 tCharlie) = .next (tCharlie.withPeriod 9#16) ∧
      takesTick (deliver 0x01000009#32 tCharlie) = false := ⟨rfl, rfl, rfl, rfl, by decide⟩

/-- `FaultsArePrecise`: each of its three cases is taken by some word. -/
theorem test_witness_faults :
    hostStep 0x03000000#32 tCharlie = .next (tCharlie.withTie false) ∧
      hostStep 0x04000000#32 tCharlie = .next (raiseFault .illegalOpcode tCharlie) ∧
      hostStep 0x02000000#32 tCharlie = .next (raiseFault .configError (tCharlie.withMode .faulted)) ∧
      tCharlie.mode = .idle ∧ tCharlie.period = 0#16 := ⟨rfl, rfl, rfl, rfl, rfl⟩

/-- `FaultDoesNotStopRefresh`, `TickFrame`: a TCLK and a TICK that answer next states. -/
theorem test_witness_timer_engine :
    tclk (tRunning .charlie 3#16) = .next ((tRunning .charlie 3#16).withTcnt 1#16) ∧
      engineStep (tTickC 1#8 0#3) = .next (tTick (tTickC 1#8 0#3)) ∧
      tick (tTickC 1#8 0#3) = .next (tTick (tTickC 1#8 0#3)) := ⟨rfl, rfl, rfl⟩

/-- `TickEnabling`: not enabled, enabled, and enabled across a step that is neither a TICK nor `TIE #0`. -/
theorem test_witness_enabling :
    ¬ (tCharlie.mode = .running ∧ tCharlie.pend = true ∧ tCharlie.tie = true) ∧
      (tTickC 1#8 5#3).mode = .running ∧ (tTickC 1#8 5#3).pend = true ∧ (tTickC 1#8 5#3).tie = true ∧
      step ((tTickC 1#8 5#3).withAgenda [.timer]) = .next ((tTickC 1#8 5#3).withTcnt 1#16) ∧
      tickEnabled ((tTickC 1#8 5#3).withAgenda [.timer]) = true ∧
      takesTick ((tTickC 1#8 5#3).withAgenda [.timer]) = false ∧
      delivers 0x03000000#32 ((tTickC 1#8 5#3).withAgenda [.timer]) = false :=
  ⟨by decide, rfl, rfl, rfl, rfl, by decide, by decide, by decide⟩

/-- `TickCharlieRule`, `AllOff`, `TickNeverFaults`: a slot on and one off at the last cursor; all six off with bits
7:6 set. -/
theorem test_witness_tick_charlie :
    charlieMapOk (tTickC 0x20#8 5#3).params.charlieMap = true ∧
      (tTickC 0x20#8 5#3).params.charlieMap[(tTickC 0x20#8 5#3).cursor.toNat]? = some 0x38#8 ∧
      (tTickC 0x20#8 5#3).charlieVal.extractLsb' 0 6 ≠ 0#6 ∧
      (tTickC 0x20#8 5#3).charlieVal.getLsbD (tTickC 0x20#8 5#3).cursor.toNat = true ∧
      (tTickC 0x01#8 5#3).charlieVal.getLsbD (tTickC 0x01#8 5#3).cursor.toNat = false ∧
      (tTickC 0xC0#8 5#3).charlieVal.extractLsb' 0 6 = 0#6 ∧ (tTickC 0xC0#8 5#3).cursor.toNat < 6 ∧
      (tTickC 0xC0#8 5#3).params.legal = true := by decide

/-- `TickSsdRule`, `AllOff`: digit 9 and digit 10 at the last cursor; four blank digits. -/
theorem test_witness_tick_ssd :
    (tTickS #v[0#8, 0#8, 0#8, 9#8] (Vector.replicate 4 true) 3#3).ssdVal[3]? = some 9#8 ∧
      (tTickS #v[0#8, 0#8, 0#8, 9#8] (Vector.replicate 4 true) 3#3).ssdDot[3]? = some true ∧
      (Params.default .ssd).glyphRom[9]? = some 0xF6#8 ∧ (9#8).toNat ≤ 9 ∧
      (tTickS #v[0#8, 0#8, 0#8, 10#8] (Vector.replicate 4 true) 3#3).ssdVal[3]? = some 10#8 ∧ 10 ≤ (10#8).toNat ∧
      ∀ p : Fin 4, 10 ≤ (Vector.replicate 4 10#8)[p].toNat ∧ (Vector.replicate 4 false)[p] = false := by decide

/-- `RomMap`, `GlyphDecoder`, `DriveShape`, `DrivesDistinct`: the boundaries of the ROM's ranges; a legal map. -/
theorem test_witness_rom :
    memRead (Params.default .ssd) 9#8 = some 0xF6#8 ∧ memRead (Params.default .ssd) 10#8 = some 0x00#8 ∧
      memRead (Params.default .ssd) 15#8 = some 0x00#8 ∧ memRead (Params.default .ssd) 16#8 = none ∧
      memRead (Params.default .charlie) 15#8 = none ∧ memRead (Params.default .charlie) 16#8 = some 0x44#8 ∧
      memRead (Params.default .charlie) 21#8 = some 0x38#8 ∧ memRead (Params.default .charlie) 22#8 = none ∧
      charlieMapOk defaultCharlieMap = true := by decide

/-- `TclkRule`: the last count of a period with a tick pending and without, and the one before it. -/
theorem test_witness_tclk :
    ((tRunning .ssd 3#16).withTcnt 2#16).tcnt.toNat + 1 = ((tRunning .ssd 3#16).withTcnt 2#16).period.toNat ∧
      ((tRunning .ssd 3#16).withTcnt 1#16).tcnt.toNat + 1 < ((tRunning .ssd 3#16).withTcnt 1#16).period.toNat ∧
      (tRunning .ssd 3#16).pend = false ∧ ((tRunning .ssd 3#16).withPend true).pend = true ∧
      tCharlie.mode ≠ .running := by decide

/-! ### Witnesses of the statements over runs -/

/-- The invariant of a state whose trace is reset's. -/
theorem tInvariant {s : State} (h : s.params.legal = true ∧ s.booted = true ∧
    s.cursor.toNat < s.params.variant.nslots ∧ (s.cause = .none ↔ s.fault = false) ∧
    (s.mode = .running → 1 ≤ s.period.toNat ∧ s.tcnt.toNat < s.period.toNat) ∧
    (s.mode ≠ .running → s.tcnt = 0#16 ∧ s.pend = false) ∧ s.trace.getLast? = some (outputs s))
    (ht : s.trace = [OutVec.neutral s.params.variant]) : Invariant s := by
  refine ⟨h.1, h.2.1, h.2.2.1, h.2.2.2.1, h.2.2.2.2.1, h.2.2.2.2.2.1, h.2.2.2.2.2.2, fun v hv => ?_⟩
  rw [ht, List.mem_singleton] at hv
  subst hv
  cases hp : s.params.variant <;> simp [OutVec.neutral, AtMostOneSlot, hp, pinCount, digCount, Pins.allZ]

/-- The state `k` steps on. -/
def tAfter (k : Nat) (s : State) : State := tEnd s (Sys2Proof.core.run k s)

/-- Whether the machine takes `k` steps. -/
def tRuns (k : Nat) (s : State) : Bool :=
  match Sys2Proof.core.run k s with
  | .next _ => true
  | .fault _ => false
  | .refused _ => false

theorem tRuns_runsTo {k : Nat} {s : State} (h : tRuns k s = true) : runsTo k s (tAfter k s) := by
  unfold tRuns at h
  unfold runsTo tAfter
  split at h
  · rename_i t ht
    rw [ht]
    rfl
  · cases h
  · cases h

/-- Whether `p` holds in each state the next `k` steps are taken in. -/
def tAlong (p : State → Bool) : Nat → State → Bool
  | 0, _ => true
  | k + 1, s =>
    p s &&
      match step s with
      | .next t => tAlong p k t
      | .fault _ => true
      | .refused _ => true

theorem tAlong_holds {p : State → Bool} {q : State → Prop} (hq : ∀ s, p s = true → q s) {k : Nat} :
    ∀ {s : State}, tAlong p k s = true → holdsAlong q k s := by
  induction k with
  | zero => exact fun _ => trivial
  | succ k ih =>
    intro s h
    simp only [tAlong, Bool.and_eq_true] at h
    refine ⟨hq _ h.1, ?_⟩
    revert h
    cases step s with
    | next t => exact fun h => ih h.2
    | fault _ => exact fun _ => trivial
    | refused _ => exact fun _ => trivial

/-- SSD, RUNNING with PERIOD 1: each TCLK raises an event, and the next turn serves it, for two refresh cycles. -/
def tRefresh : State :=
  (tRunning .ssd 1#16).withAgenda
    [.timer, .engine, .timer, .engine, .timer, .engine, .timer, .engine,
      .timer, .engine, .timer, .engine, .timer, .engine, .timer, .engine]

/-- CHARLIE, the same for one cycle. -/
def tRefreshC : State :=
  { tRunning .charlie 1#16 with
    charlieVal := 0x21#8
    agenda := [.timer, .engine, .timer, .engine, .timer, .engine, .timer, .engine, .timer, .engine, .timer, .engine] }

theorem tRefresh_invariant : Invariant tRefresh := tInvariant (by decide) rfl
theorem tRefreshC_invariant : Invariant tRefreshC := tInvariant (by decide) rfl

/-- `InvariantKept`, `InvariantNeverStops`, `InvariantAtReset`, `ExactPeriod`, `TicksMatchEvents`, `RoundRobin`: a
running state with the invariant and a run of a full cycle without an overrun. -/
theorem test_witness_run :
    Invariant tRefresh ∧ tRefresh.mode = .running ∧ runsTo 8 tRefresh (tAfter 8 tRefresh) ∧
      (tAfter 8 tRefresh).ovr = false ∧ countAlong takesTick 8 tRefresh = tRefresh.params.variant.nslots ∧
      countAlong raisesEvent 8 tRefresh = 4 ∧ slotsAlong 8 tRefresh = [0, 1, 2, 3] :=
  ⟨tRefresh_invariant, rfl, tRuns_runsTo (by decide), by decide, by decide, by decide, by decide⟩

/-- `CyclesRepeat`: two cycles, nothing written. -/
theorem test_witness_cycles :
    runsTo 8 tRefresh (tAfter 8 tRefresh) ∧ runsTo 8 (tAfter 8 tRefresh) (tAfter 8 (tAfter 8 tRefresh)) ∧
      holdsAlong (fun u => display u = display tRefresh) 8 tRefresh ∧
      holdsAlong (fun u => display u = display tRefresh) 8 (tAfter 8 tRefresh) ∧
      countAlong takesTick 8 (tAfter 8 tRefresh) = tRefresh.params.variant.nslots :=
  ⟨tRuns_runsTo (by decide), tRuns_runsTo (by decide),
    tAlong_holds (p := fun u => decide (display u = display tRefresh)) (fun _ h => of_decide_eq_true h) (by decide),
    tAlong_holds (p := fun u => decide (display u = display tRefresh)) (fun _ h => of_decide_eq_true h) (by decide),
    by decide⟩

/-- `SlotShownWithinCycle`, SSD: position 3 keeps its digit over a cycle. -/
theorem test_witness_shown_ssd :
    tRefresh.params.variant = .ssd ∧ holdsAlong (fun u => u.ssdVal[3] = 0#8 ∧ u.ssdDot[3] = false) 8 tRefresh :=
  ⟨rfl, tAlong_holds (p := fun u => decide (u.ssdVal[3] = 0#8 ∧ u.ssdDot[3] = false))
    (fun _ h => of_decide_eq_true h) (by decide)⟩

/-- `SlotShownWithinCycle`, CHARLIE: slot 5 stays on, slot 4 off, over a cycle. -/
theorem test_witness_shown_charlie :
    Invariant tRefreshC ∧ runsTo 12 tRefreshC (tAfter 12 tRefreshC) ∧ tRefreshC.params.variant = .charlie ∧
      countAlong takesTick 12 tRefreshC = tRefreshC.params.variant.nslots ∧
      holdsAlong (fun u => u.charlieVal.getLsbD 5 = true) 12 tRefreshC ∧
      holdsAlong (fun u => u.charlieVal.getLsbD 4 = false) 12 tRefreshC :=
  ⟨tRefreshC_invariant, tRuns_runsTo (by decide), rfl, by decide,
    tAlong_holds (p := fun u => decide (u.charlieVal.getLsbD 5 = true)) (fun _ h => of_decide_eq_true h) (by decide),
    tAlong_holds (p := fun u => decide (u.charlieVal.getLsbD 4 = false)) (fun _ h => of_decide_eq_true h) (by decide)⟩

/-- A held window: TIE = 0, PERIOD 2, two TCLKs, a turn of ENGINE and one more TCLK. -/
def tHeld : State :=
  ((tRunning .ssd 2#16).withTie false).withAgenda [.timer, .timer, .engine, .host 0x20000009#32]

/-- `ShortWindowLosesNoTick` (its first step: one TCLK, fewer than PERIOD) and `HeldWindow`. -/
theorem test_witness_held :
    Invariant tHeld ∧ tHeld.mode = .running ∧ tHeld.tie = false ∧ runsTo 1 tHeld (tAfter 1 tHeld) ∧
      countAlong takesTclk 1 tHeld < tHeld.period.toNat ∧ tHeld.pend = false ∧ runsTo 4 tHeld (tAfter 4 tHeld) ∧
      holdsAlong (fun u => delivers 0x03000001#32 u = false) 4 tHeld ∧ (tAfter 4 tHeld).pend = true :=
  ⟨tInvariant (by decide) rfl, rfl, rfl, tRuns_runsTo (by decide), by decide, rfl, tRuns_runsTo (by decide),
    tAlong_holds (p := fun u => !delivers 0x03000001#32 u) (fun _ h => by simpa using h) (by decide), by decide⟩

/-- An enabled TICK, a write by HOST, ENGINE's turn. -/
def tEnabled : State :=
  ((tRunning .ssd 2#16).withPend true).withAgenda [.host 0x20000009#32, .engine]

/-- `EnabledTickIsTaken`. -/
theorem test_witness_enabled :
    Invariant tEnabled ∧ tickEnabled tEnabled = true ∧ runsTo 2 tEnabled (tAfter 2 tEnabled) ∧
      holdsAlong (fun u => delivers 0x03000000#32 u = false) 2 tEnabled ∧ 1 ≤ countAlong engineTurn 2 tEnabled :=
  ⟨tInvariant (by decide) rfl, rfl, tRuns_runsTo (by decide),
    tAlong_holds (p := fun u => !delivers 0x03000000#32 u) (fun _ h => by simpa using h) (by decide), by decide⟩

/-- `RefreshGoesOn`: PERIOD TCLKs, then a turn of ENGINE. -/
theorem test_witness_goes_on :
    Invariant tRefresh ∧ tRefresh.mode = .running ∧ tRefresh.tie = true ∧ runsTo 1 tRefresh (tAfter 1 tRefresh) ∧
      runsTo 1 (tAfter 1 tRefresh) (tAfter 1 (tAfter 1 tRefresh)) ∧
      holdsAlong (fun u => delivers 0x03000000#32 u = false) 1 tRefresh ∧
      holdsAlong (fun u => delivers 0x03000000#32 u = false) 1 (tAfter 1 tRefresh) ∧
      tRefresh.period.toNat ≤ countAlong takesTclk 1 tRefresh ∧ 1 ≤ countAlong engineTurn 1 (tAfter 1 tRefresh) :=
  ⟨tRefresh_invariant, rfl, rfl, tRuns_runsTo (by decide), tRuns_runsTo (by decide),
    tAlong_holds (p := fun u => !delivers 0x03000000#32 u) (fun _ h => by simpa using h) (by decide),
    tAlong_holds (p := fun u => !delivers 0x03000000#32 u) (fun _ h => by simpa using h) (by decide), by decide,
    by decide⟩

/-! ### Witnesses of the whole-machine statements: one step of each agent -/

/-- `AccessMatrix`, `PeriodLocked`, `CursorOwnedByEngine`: a step of each agent after RESET, and both kinds of turn
before it. -/
theorem test_witness_agents :
    (∀ s ∈ [deliver 0x01000009#32 tCharlie, (tRunning .ssd 3#16).withAgenda [.timer],
        (tTickC 1#8 5#3).withAgenda [.engine], tCharlie.withAgenda [.reset]],
      s.booted = true ∧ tRuns 1 s = true) ∧
      takesTick ((tTickC 1#8 5#3).withAgenda [.engine]) = true ∧
      takesTick ((tRunning .ssd 3#16).withAgenda [.timer]) = false ∧
      (tAfter 1 (deliver 0x01000009#32 tCharlie)).period ≠ tCharlie.period ∧
      (tUnbooted .reset).booted = false ∧ tRuns 1 (tUnbooted .reset) = true ∧ tRuns 1 (tUnbooted .timer) = true := by
  decide

/-- `ModeTransitions`: both transitions are taken. -/
theorem test_witness_transitions :
    step (deliver 0x02000000#32 (tCharlie.withPeriod 1#16)) = .next (tRunning .charlie 1#16) ∧
      step (deliver 0x02000000#32 tCharlie) = .next tFaulted ∧
      delivers 0x02000000#32 (deliver 0x02000000#32 tCharlie) = true := ⟨rfl, rfl, by decide⟩

/-- `FlagTable`: a step that sets PEND, clears it, sets OVR, sets FAULT, keeps a set FAULT, and changes TIE. -/
theorem test_witness_flags :
    (tAfter 1 tRefresh).pend = true ∧ (tAfter 2 tRefresh).pend = false ∧
      (tAfter 1 ((tRunning .ssd 1#16).withPend true |>.withAgenda [.timer])).ovr = true ∧
      (tAfter 1 (deliver 0xFF000000#32 tCharlie)).fault = true ∧
      (tAfter 1 (deliver 0xFF000000#32 tFaulted)).cause = .configError ∧
      (tAfter 1 (deliver 0x03000000#32 tCharlie)).tie = false := by decide

/-- `NeutralUntilStart`: a state that keeps it non-vacuously, and its step. -/
theorem test_witness_neutral :
    tCharlie.booted = true ∧ NeutralUntilRunning tCharlie ∧ tCharlie.mode ≠ .running ∧
      step (deliver 0x1100003F#32 tCharlie) = .next (tCharlie.withCharlieVal 0x3F#8) :=
  ⟨rfl, fun _ => ⟨rfl, rfl, rfl⟩, by decide, rfl⟩

end Sys2Proof.Machine
end

/-!
PROOFS. The statements of 00_scope.md: elaboration, the one refusal, progress of every agent's step, and the physical
reading of the outputs. First the laws they cite, in the order of the definitions they speak of.
-/
namespace Sys2Proof

/-! ### The elaboration checks, table by table (R13, R100) -/

theorem Variant.ofName_eq_none_iff (name : String) : Variant.ofName name = none ↔ name ≠ "CHARLIE" ∧ name ≠ "SSD" := by
  unfold Variant.ofName
  split_ifs with hc hs
  · simp [hc]
  · simp [hs]
  · simp [hc, hs]

theorem Variant.ofName_eq_charlie_iff (name : String) : Variant.ofName name = some .charlie ↔ name = "CHARLIE" := by
  unfold Variant.ofName
  split_ifs with hc <;> simp [hc]

theorem Variant.ofName_eq_ssd_iff (name : String) : Variant.ofName name = some .ssd ↔ name = "SSD" := by
  unfold Variant.ofName
  split_ifs with hc hs
  · simp [hc]
  · simp [hs]
  · simp [hs]

/-- The slot count of a known variant (R2). -/
theorem Variant.nslots_ne_of_ofName_iff (name : String) (n : Nat) :
    (∃ v, Variant.ofName name = some v ∧ n ≠ v.nslots) ↔ (name = "CHARLIE" ∧ n ≠ 6) ∨ (name = "SSD" ∧ n ≠ 4) := by
  rw [← Variant.ofName_eq_charlie_iff, ← Variant.ofName_eq_ssd_iff]
  constructor
  · rintro ⟨v, hname, hn⟩
    cases v with
    | charlie => exact .inl ⟨hname, hn⟩
    | ssd => exact .inr ⟨hname, hn⟩
  · rintro (⟨hname, hn⟩ | ⟨hname, hn⟩)
    · exact ⟨.charlie, hname, hn⟩
    · exact ⟨.ssd, hname, hn⟩

theorem Params.legal_iff (p : Params) :
    p.legal = true ↔
      p.nslots = p.variant.nslots ∧ charlieMapOk p.charlieMap = true ∧ glyphRomOk p.glyphRom = true := by
  simp [Params.legal, and_assoc]

/-- R13 read as a refusal. -/
theorem Params.legal_eq_false_iff (p : Params) :
    p.legal = false ↔
      p.nslots ≠ p.variant.nslots ∨ charlieMapOk p.charlieMap = false ∨ glyphRomOk p.glyphRom = false := by
  rw [← Bool.not_eq_true, Params.legal_iff, not_and_or, not_and_or, Bool.not_eq_true, Bool.not_eq_true]

theorem mapEntryOk_iff (e : Byte) :
    mapEntryOk e = true ↔
      (mapPa e).toNat < 3 ∧ (mapPb e).toNat < 3 ∧ (mapPf e).toNat < 3 ∧
        mapPa e ≠ mapPb e ∧ mapPa e ≠ mapPf e ∧ mapPb e ≠ mapPf e ∧ e.getLsbD 7 = false := by
  simp [mapEntryOk, and_assoc]

/-- A table's check entry by entry is a check at every index. -/
theorem all_toList_iff {α : Type} {n : Nat} (m : Vector α n) (p : α → Bool) :
    m.toList.all p = true ↔ ∀ i : Fin n, p m[i] = true := by
  simp [Fin.forall_iff]

/-- A table whose entries read by `f` are pairwise distinct is one that `f` reads differently at different indices. -/
theorem pairwise_ne_map_toList_iff {α β : Type} {n : Nat} (m : Vector α n) (f : α → β) :
    (m.toList.map f).Pairwise (· ≠ ·) ↔ Function.Injective fun i : Fin n => f m[i] := by
  have hlist : m.toList.map f = List.ofFn fun i : Fin n => f m[i] := by
    apply List.ext_getElem <;> simp
  rw [hlist, ← List.nodup_ofFn, List.Nodup]

/-- R100: the six entries are well-formed, and no two slots have the same high and low pins. -/
theorem charlieMapOk_iff (m : Vector Byte 6) :
    charlieMapOk m = true ↔
      (∀ i : Fin 6, mapEntryOk m[i] = true) ∧
        ∀ i j : Fin 6, mapHigh m[i] = mapHigh m[j] → mapLow m[i] = mapLow m[j] → i = j := by
  simp only [charlieMapOk, Bool.and_eq_true, decide_eq_true_eq, all_toList_iff, pairwise_ne_map_toList_iff,
    Function.Injective, Prod.mk.injEq, and_imp]

theorem glyphRomOk_iff (g : Vector Byte 10) : glyphRomOk g = true ↔ ∀ d : Fin 10, g[d].getLsbD 0 = false := by
  simp only [glyphRomOk, all_toList_iff, Bool.not_eq_true']

/-- R100 read as a refusal. -/
theorem charlieMapOk_eq_false_iff (m : Vector Byte 6) :
    charlieMapOk m = false ↔
      (∃ i : Fin 6, ¬ ((mapPa m[i]).toNat < 3 ∧ (mapPb m[i]).toNat < 3 ∧ (mapPf m[i]).toNat < 3 ∧
          mapPa m[i] ≠ mapPb m[i] ∧ mapPa m[i] ≠ mapPf m[i] ∧ mapPb m[i] ≠ mapPf m[i] ∧
          m[i].getLsbD 7 = false)) ∨
        ∃ i j : Fin 6, i ≠ j ∧ mapHigh m[i] = mapHigh m[j] ∧ mapLow m[i] = mapLow m[j] := by
  rw [← Bool.not_eq_true, charlieMapOk_iff, not_and_or]
  refine or_congr ?_ ?_
  · simp only [mapEntryOk_iff, not_forall]
  · constructor
    · intro h
      push Not at h
      obtain ⟨i, j, hhigh, hlow, hij⟩ := h
      exact ⟨i, j, hij, hhigh, hlow⟩
    · rintro ⟨i, j, hij, hhigh, hlow⟩ h
      exact hij (h i j hhigh hlow)

theorem glyphRomOk_eq_false_iff (g : Vector Byte 10) :
    glyphRomOk g = false ↔ ∃ d : Fin 10, g[d].getLsbD 0 = true := by
  rw [← Bool.not_eq_true, glyphRomOk_iff]
  simp only [not_forall, Bool.not_eq_false]

end Sys2Proof

namespace Sys2Proof.Machine

/-- R13: elaboration refuses an unknown variant, a slot count that is not the variant's, and an ill-formed table. -/
theorem elaborate_eq_error_iff (name : String) (n : Nat) (g : Vector Byte 10) (m : Vector Byte 6) (r : Byte) :
    elaborate name n g m r = .error .illegalElaboration ↔
      Variant.ofName name = none ∨ (∃ v, Variant.ofName name = some v ∧ n ≠ v.nslots) ∨
        charlieMapOk m = false ∨ glyphRomOk g = false := by
  unfold elaborate
  cases hname : Variant.ofName name with
  | none => simp
  | some v => simp [Params.legal_eq_false_iff]

/-! ### The agents' turns (R7, R55, R77) -/

theorem nextTurn_of_nil {s : State} (h : s.agenda = []) :
    nextTurn s = (Config.schedule s.draws, s.withDraws (s.draws + 1)) := by
  simp [nextTurn, h]

theorem nextTurn_of_cons {s : State} {e : AgentStep} {rest : List AgentStep} (h : s.agenda = e :: rest) :
    nextTurn s = (e, s.withAgenda rest) := by
  simp [nextTurn, h]

theorem tickEnabled_iff (s : State) : tickEnabled s = true ↔ s.mode = .running ∧ s.pend = true ∧ s.tie = true := by
  simp [tickEnabled, and_assoc]

/-! ### `TICK` completes (R87) -/

/-- The ROM address of a slot holds the slot's map entry (R45, R79). -/
theorem memRead_romCharlie {p : Params} {c : BitVec 3} (hv : p.variant = .charlie) (hc : c.toNat < 6) :
    memRead p (romCharlie + c.setWidth 8) = some p.charlieMap[c.toNat] := by
  have haddr : (romCharlie + c.setWidth 8).toNat = 16 + c.toNat := by
    simp only [romCharlie, BitVec.toNat_add, BitVec.toNat_setWidth, BitVec.toNat_ofNat]
    omega
  simp [memRead, hv, haddr, hc]

theorem exists_setPin_eq_some (ps : Pins) {i : BitVec 2} (v : Pin) (hi : i.toNat < 3) :
    ∃ ps', setPin ps i v = some ps' := by
  have hcases : i = 0#2 ∨ i = 1#2 ∨ i = 2#2 := by bv_omega
  obtain rfl | rfl | rfl := hcases <;> exact ⟨_, rfl⟩

/-- A well-formed entry names only pins that exist, so it can be driven (R100, R101). -/
theorem exists_chDrive_eq_some {e : Byte} (h : mapEntryOk e = true) : ∃ ps, chDrive e = some ps := by
  obtain ⟨ha, hb, hf, -⟩ := (mapEntryOk_iff e).1 h
  obtain ⟨d1, h1⟩ := exists_setPin_eq_some Pins.allZ (levelA (mapPol e)) ha
  obtain ⟨d2, h2⟩ := exists_setPin_eq_some d1 (levelB (mapPol e)) hb
  obtain ⟨d3, h3⟩ := exists_setPin_eq_some d2 .Z hf
  exact ⟨d3, by simp [chDrive, h1, h2, h3]⟩

theorem exists_charlieDrive_eq_some (v : Byte) (c : BitVec 3) {e : Byte} (h : mapEntryOk e = true) :
    ∃ ps, charlieDrive v c e = some ps := by
  unfold charlieDrive
  split_ifs
  · exact exists_chDrive_eq_some h
  · exact ⟨_, rfl⟩

/-- The glyph decoder of the SSD variant answers for every value (R96). -/
theorem exists_segmentsFor_eq_some {p : Params} (hv : p.variant = .ssd) (d : Byte) : ∃ g, segmentsFor p d = some g := by
  unfold segmentsFor
  split_ifs with hd
  · have hlt : d.toNat < 10 := by omega
    exact ⟨p.glyphRom[d.toNat], by simp [memRead, hv, romGlyph, hlt]⟩
  · exact ⟨_, rfl⟩

/-- R87: elaborated and with its cursor in range, `TICK` answers a next state. -/
theorem tick_completes {s : State} (hp : s.params.legal = true) (hc : s.cursor.toNat < s.params.variant.nslots) :
    ∃ t, tick s = .next t := by
  obtain ⟨-, hmap, -⟩ := (Params.legal_iff s.params).1 hp
  cases hv : s.params.variant with
  | charlie =>
    have hc6 : s.cursor.toNat < 6 := by simpa [hv, Variant.nslots] using hc
    have hentry : mapEntryOk s.params.charlieMap[s.cursor.toNat] = true :=
      ((charlieMapOk_iff _).1 hmap).1 ⟨s.cursor.toNat, hc6⟩
    obtain ⟨ps, hps⟩ := exists_charlieDrive_eq_some s.charlieVal s.cursor hentry
    exact ⟨finishTick (.charlie Pins.allZ) (.charlie ps) s,
      by simp only [tick, hv, tickCharlie, memRead_romCharlie hv hc6, hps]⟩
  | ssd =>
    have hc4 : s.cursor.toNat < 4 := by simpa [hv, Variant.nslots] using hc
    obtain ⟨g, hg⟩ := exists_segmentsFor_eq_some hv s.ssdVal[s.cursor.toNat]
    exact ⟨finishTick (.ssd 0x00#8 0b0000#4)
        (.ssd (withDp g s.ssdDot[s.cursor.toNat]) (1#4 <<< s.cursor.toNat)) s,
      by simp only [tick, hv, tickSsd, Vector.getElem?_eq_getElem hc4, hg]⟩

/-! ### Every agent's step completes under the invariant, and none is ever refused -/

/-- R105: `TCLK` answers a next state where RUNNING means a count below the period (R43). -/
theorem tclk_completes {s : State} (h : s.mode = .running → s.tcnt < s.period) : ∃ t, tclk s = .next t := by
  unfold tclk
  split_ifs with hm hlt
  · exact ⟨_, rfl⟩
  · exact ⟨_, rfl⟩
  · exact absurd (h hm) hlt
  · exact ⟨_, rfl⟩

theorem perform_completes {s : State} (h : Invariant s) (e : AgentStep) : ∃ t, perform e s = .next t := by
  cases e with
  | host w => exact hostStep_completes w s
  | timer => exact tclk_completes fun hm => BitVec.lt_def.2 (h.counting hm).2
  | engine =>
    simp only [perform, engineStep]
    split_ifs
    · exact tick_completes h.paramsLegal h.cursorRange
    · exact ⟨s, rfl⟩
  | reset => exact ⟨s, rfl⟩

/-- `TICK` has stops of the model's own (log 3) but no refusal. -/
theorem tick_ne_refused (s : State) (r : Refusal) : tick s ≠ .refused r := by
  unfold tick
  split
  · unfold tickCharlie
    split
    · exact nofun
    · split <;> exact nofun
  · unfold tickSsd
    split
    · split <;> exact nofun
    · exact nofun

theorem tclk_ne_refused (s : State) (r : Refusal) : tclk s ≠ .refused r := by
  unfold tclk
  split_ifs <;> exact nofun

/-- R8: no agent's step is refused, in any state. -/
theorem perform_ne_refused (e : AgentStep) (s : State) (r : Refusal) : perform e s ≠ .refused r := by
  cases e with
  | host w =>
    obtain ⟨t, ht⟩ := hostStep_completes w s
    simp [perform, ht]
  | timer => exact tclk_ne_refused s r
  | engine =>
    simp only [perform, engineStep]
    split_ifs
    · exact tick_ne_refused s r
    · exact nofun
  | reset => exact nofun

/-- R13: an illegal parameter set answers the elaboration refusal at every step. -/
theorem step_of_illegal {s : State} (h : s.params.legal = false) : step s = .refused .illegalElaboration := by
  simp [step, advance, h]

/-- R8: an elaborated machine's step is never refused. -/
theorem step_ne_refused {s : State} (h : s.params.legal = true) (r : Refusal) : step s ≠ .refused r := by
  simp only [step, advance, h, if_true]
  split_ifs
  · exact perform_ne_refused _ _ r
  · exact nofun
  · exact nofun

/-! ### Pins and levels (R11, R92, R102) -/

theorem pinDirection_eq_input_iff (v : Pin) : pinDirection v = .input ↔ v = .Z := by
  cases v <;> simp [pinDirection]

theorem pinLevel_eq_high_iff (v : Pin) : pinLevel v = some .high ↔ v = .H := by
  cases v <;> simp [pinLevel]

theorem pinLevel_eq_low_iff (v : Pin) : pinLevel v = some .low ↔ v = .L := by
  cases v <;> simp [pinLevel]

theorem oppositeLevel_ne (l : Level) : oppositeLevel l ≠ l := by
  cases l <;> simp [oppositeLevel]

/-- An output is at its ON level exactly when its bit is 1, whichever level that is (R102). -/
theorem physicalLevel_eq_on_iff (on : Level) (b : Bool) : physicalLevel on b = on ↔ b = true := by
  cases b with
  | false => simp [physicalLevel, oppositeLevel_ne]
  | true => simp [physicalLevel]

/-! ### The statements -/

/-- Settles O9: the refusal of elaboration, check by check. -/
theorem elaborationChecks : Obligations.ElaborationChecks := by
  intro name n g m r
  rw [elaborate_eq_error_iff, Variant.ofName_eq_none_iff, Variant.nslots_ne_of_ofName_iff, charlieMapOk_eq_false_iff,
    glyphRomOk_eq_false_iff]
  simp only [or_assoc]

/-- Settles O10: an illegal parameter set is refused, and no agent's step is. -/
theorem onlyRefusal : Obligations.OnlyRefusal := by
  intro s
  constructor
  · rintro ⟨r, hr⟩
    by_contra hp
    exact step_ne_refused (by simpa using hp) r hr
  · intro hp
    exact ⟨_, step_of_illegal hp⟩

/-- Settles O52: the invariant gives the step's guards, survives the taking of a turn, and lets every agent's step
complete. -/
theorem invariantNeverStops : Obligations.InvariantNeverStops := by
  intro s h
  have hguards := h.steps
  simp only [steps, Bool.and_eq_true] at hguards
  obtain ⟨⟨hp, hb⟩, hl⟩ := hguards
  obtain ⟨a, n, hturn⟩ := nextTurn_snd s
  rw [step_eq_perform hp hb hl, hturn]
  exact perform_completes (h.scheduled a n) _

/-- Settles O7: the scheduled agent by the two forms of the agenda, then each agent's own step. -/
theorem stepTakesNextTurn : Obligations.StepTakesNextTurn := by
  intro s hp hb hl
  refine ⟨fun e rest ha => ?_, fun ha => ?_, fun u => ⟨fun _ => rfl, rfl, ?_, rfl⟩⟩
  · rw [step_eq_perform hp hb hl, nextTurn_of_cons ha]
  · rw [step_eq_perform hp hb hl, nextTurn_of_nil ha]
  · simp only [perform, engineStep, tickEnabled_iff]

/-- Settles O22: every command has an effect (`exec_effect`), so HOST's step completes too. -/
theorem commandsNeverStop : Obligations.CommandsNeverStop := by
  refine ⟨fun i s => ?_, hostStep_completes⟩
  obtain ⟨t, ht, -⟩ := exec_effect i s
  exact ⟨t, ht⟩

/-- Settles O40: pin by pin, and for either value of each ON level. -/
theorem physicalLevels : Obligations.PhysicalLevels :=
  ⟨fun v => ⟨pinDirection_eq_input_iff v, pinLevel_eq_high_iff v, pinLevel_eq_low_iff v⟩,
    fun _ _ => ⟨physicalLevel_eq_on_iff _ _, physicalLevel_eq_on_iff _ _⟩⟩

end Sys2Proof.Machine

/-!
PROOFS. The statements of 10_state.md: the status word, what each command and each agent writes, and the invariant.
First the laws they cite, in the order of the definitions they speak of.
-/
namespace Sys2Proof

/-! ### The word of an accepted command (R62 to R71) -/

/-- The reserved-zero check of R71, read off the fields of any word. -/
theorem fields_of_mask {w : Word} {op mi : Byte} {md : Half} (hop : opField w = op)
    (hmask : w &&& packWord 0xFF#8 mi md = packWord op 0#8 0#16) :
    idxField w &&& mi = 0#8 ∧ dataField w &&& md = 0#16 := by
  rwa [← packWord_fields w, hop, and_mask_iff] at hmask

/-- `DATA` with its upper 15 bits 0 is a flag (R65). -/
theorem flagData_flagOperand {w : Word} (h : dataField w &&& 0xFFFE#16 = 0#16) :
    flagData (flagOperand w) = dataField w := by
  have hmask : ∀ i < 16, (0xFFFE#16).getLsbD i = decide (i ≠ 0) := by decide
  have hflag : flagOperand w = (dataField w).getLsbD 0 := by simp [flagOperand, dataField]
  have hbits : ∀ b, ∀ i < 16, (flagData b).getLsbD i = (decide (i = 0) && b) := by decide
  rw [hflag]
  ext i hi
  have hbit : (dataField w &&& 0xFFFE#16).getLsbD i = false := by simp [h]
  rw [BitVec.getLsbD_and, hmask i hi] at hbit
  rw [← BitVec.getLsbD_eq_getElem, ← BitVec.getLsbD_eq_getElem, hbits _ i hi]
  by_cases h0 : i = 0
  · simp [h0]
  · simpa [h0] using hbit.symm

/-- `DATA` with its upper byte 0 is a byte (R66). -/
theorem byteData_byteOperand {w : Word} (h : dataField w &&& 0xFF00#16 = 0#16) :
    byteData (byteOperand w) = dataField w := by
  have hmask : ∀ i < 16, (0xFF00#16).getLsbD i = decide (8 ≤ i) := by decide
  ext i hi
  have hbit : (dataField w &&& 0xFF00#16).getLsbD i = false := by simp [h]
  rw [BitVec.getLsbD_and, hmask i hi] at hbit
  rw [← BitVec.getLsbD_eq_getElem, ← BitVec.getLsbD_eq_getElem, byteData, BitVec.getLsbD_append]
  by_cases h8 : i < 8
  · simp [h8, hi, byteOperand, dataField]
  · simpa [h8, not_lt.1 h8] using hbit.symm

/-- A word that passes its opcode's checks is the word of the command it decodes to (R68, R71). -/
theorem encode_operands {w : Word} {op : Opcode} (hop : opField w = op.code)
    (hmask : w &&& op.maskWord = op.matchWord) : encode (op.operands w) = w := by
  have hw := packWord_fields w
  rw [hop] at hw
  have hidx : idxField w &&& 0xFF#8 = 0#8 → idxField w = 0#8 := fun h => by
    rwa [show (0xFF#8 : Byte) = BitVec.allOnes 8 from rfl, BitVec.and_allOnes] at h
  have hdata : dataField w &&& 0xFFFF#16 = 0#16 → dataField w = 0#16 := fun h => by
    rwa [show (0xFFFF#16 : Half) = BitVec.allOnes 16 from rfl, BitVec.and_allOnes] at h
  cases op with
  | nop =>
    obtain ⟨hi, hd⟩ := fields_of_mask (mi := 0xFF#8) (md := 0xFFFF#16) hop hmask
    rwa [hidx hi, hdata hd] at hw
  | cfgper =>
    obtain ⟨hi, -⟩ := fields_of_mask (mi := 0xFF#8) (md := 0#16) hop hmask
    rwa [hidx hi] at hw
  | start =>
    obtain ⟨hi, hd⟩ := fields_of_mask (mi := 0xFF#8) (md := 0xFFFF#16) hop hmask
    rwa [hidx hi, hdata hd] at hw
  | tie =>
    obtain ⟨hi, hd⟩ := fields_of_mask (mi := 0xFF#8) (md := 0xFFFE#16) hop hmask
    rwa [hidx hi, ← flagData_flagOperand hd] at hw
  | setpat =>
    obtain ⟨-, hd⟩ := fields_of_mask (mi := 0#8) (md := 0xFFFE#16) hop hmask
    rwa [← flagData_flagOperand hd] at hw
  | setmask =>
    obtain ⟨hi, hd⟩ := fields_of_mask (mi := 0xFF#8) (md := 0xFF00#16) hop hmask
    rwa [hidx hi, ← byteData_byteOperand hd] at hw
  | setdig =>
    obtain ⟨-, hd⟩ := fields_of_mask (mi := 0#8) (md := 0xFF00#16) hop hmask
    rwa [← byteData_byteOperand hd] at hw
  | setdp =>
    obtain ⟨-, hd⟩ := fields_of_mask (mi := 0#8) (md := 0xFFFE#16) hop hmask
    rwa [← flagData_flagOperand hd] at hw

/-- No two words decode to one command. -/
theorem encode_of_decode {w : Word} {i : Instr} (h : decode w = .ok i) : encode i = w := by
  obtain ⟨op, hop, hmask, rfl⟩ := decode_ok.1 h
  exact encode_operands hop hmask

/-- `CFGPER`'s word with its operand in bits 15:0 (R116). -/
theorem encode_cfgper (p : Half) : encode (.cfgper p) = 0x01000000#32 ||| p.setWidth 32 := by
  apply BitVec.eq_of_toNat_eq
  calc (encode (.cfgper p)).toNat = (0x0100#16).toNat <<< 16 ||| p.toNat := BitVec.toNat_append _ _
    _ = (0x01000000#32 ||| p.setWidth 32).toNat := by
      simp only [BitVec.toNat_or, BitVec.toNat_setWidth]
      rw [Nat.mod_eq_of_lt (by omega)]
      rfl

/-- The two words of `TIE` (R118). -/
theorem encode_tie (b : Bool) : encode (.tie b) = if b then 0x03000001#32 else 0x03000000#32 := by
  cases b <;> rfl

/-! ### The slots of a variant (R2) -/

theorem Variant.nslots_pos (v : Variant) : 0 < v.nslots := by cases v <;> decide

end Sys2Proof

namespace Sys2Proof.Machine

/-! ### The status word, field by field (R32)

The word is a concatenation, so a bit of a field is found past the widths of the fields below it. -/

/-- The one-bit fields. -/
theorem getLsbD_statusWord (s : State) :
    (statusWord s).getLsbD 2 = s.tie ∧ (statusWord s).getLsbD 3 = s.pend ∧ (statusWord s).getLsbD 4 = s.ovr ∧
      (statusWord s).getLsbD 5 = s.fault := by
  simp only [statusWord, BitVec.getLsbD_append]
  simp

theorem extractLsb'_statusWord_mode (s : State) : (statusWord s).extractLsb' 0 2 = s.mode.code := by
  ext i hi
  simp only [statusWord, BitVec.getElem_extractLsb', BitVec.getLsbD_append]
  grind

theorem extractLsb'_statusWord_cause (s : State) : (statusWord s).extractLsb' 6 4 = s.cause.code := by
  ext i hi
  simp only [statusWord, BitVec.getElem_extractLsb', BitVec.getLsbD_append]
  grind

theorem extractLsb'_statusWord_cursor (s : State) : (statusWord s).extractLsb' 10 3 = s.cursor := by
  ext i hi
  simp only [statusWord, BitVec.getElem_extractLsb', BitVec.getLsbD_append]
  grind

theorem extractLsb'_statusWord_zero (s : State) : (statusWord s).extractLsb' 13 3 = 0#3 := by
  ext i hi
  simp only [statusWord, BitVec.getElem_extractLsb', BitVec.getLsbD_append, BitVec.getElem_zero]
  grind

/-! ### States of R41 -/

theorem legalState_iff (s : State) :
    legalState s = true ↔ s.cursor.toNat < s.params.variant.nslots ∧ (s.cause = .none ↔ s.fault = false) := by
  simp only [legalState, Bool.and_eq_true, decide_eq_true_eq, beq_iff_eq]
  refine and_congr_right fun _ => ?_
  cases s.fault <;> simp

/-- R41: a state whose cursor is out of range, or whose CAUSE and FAULT disagree, stops (assumption log 3). -/
theorem step_of_not_legalState {s : State} (hp : s.params.legal = true) (hb : s.booted = true)
    (hl : ¬ legalState s = true) : step s = .fault .illegalState := by
  simp [step, advance, hp, hb, hl]

/-! ### What each command writes (R115 to R122) -/

/-- R42: no command writes a register that is not HOST's. -/
theorem CommandEffect.frame {s t : State} {i : Instr} (h : CommandEffect s i t) :
    t = { s with charlieVal := t.charlieVal, ssdVal := t.ssdVal, ssdDot := t.ssdDot, period := t.period, tie := t.tie,
                 mode := t.mode, tcnt := t.tcnt, fault := t.fault, cause := t.cause } := by
  cases h <;> rfl

/-- `MODE` and `TCNT` are `START`'s (R117), which acts in IDLE only. -/
theorem CommandEffect.mode_write {s t : State} {i : Instr} (h : CommandEffect s i t) :
    (t.mode = s.mode ∧ t.tcnt = s.tcnt) ∨
      (i = .start ∧ s.mode = .idle ∧
        ((s.period ≠ 0#16 ∧ t.mode = .running) ∨ (s.period = 0#16 ∧ t.mode = .faulted))) := by
  cases h with
  | start hm hp => exact .inr ⟨rfl, hm, .inl ⟨hp, rfl⟩⟩
  | startInvalid hm hp => exact .inr ⟨rfl, hm, .inr ⟨hp, rfl⟩⟩
  | _ => exact .inl ⟨rfl, rfl⟩

/-- `PERIOD` is `CFGPER`'s, in IDLE only (R116). -/
theorem CommandEffect.period_write {s t : State} {i : Instr} (h : CommandEffect s i t) :
    t.period = s.period ∨ (s.mode = .idle ∧ i = .cfgper t.period) := by
  cases h with
  | cfgper p hm => exact .inr ⟨hm, rfl⟩
  | _ => exact .inl rfl

/-- `TIE` is written by the command of its name, with its operand (R118). -/
theorem CommandEffect.tie_write {s t : State} {i : Instr} (h : CommandEffect s i t) :
    t.tie = s.tie ∨ i = .tie t.tie := by
  cases h with
  | tie b => exact .inr rfl
  | _ => exact .inl rfl

/-- A command records one fault or none (R129). -/
theorem CommandEffect.fault_write {s t : State} {i : Instr} (h : CommandEffect s i t) :
    (t.fault = s.fault ∧ t.cause = s.cause) ∨
      ∃ c, c ≠ .none ∧ t.fault = true ∧ t.cause = if s.fault then s.cause else c := by
  cases h with
  | nop | cfgper | start | tie | setpat | setmask | setdig | setdp => exact .inl ⟨rfl, rfl⟩
  | cfgperLocked | startLocked => exact .inr ⟨.cfgLocked, nofun, rfl, rfl⟩
  | startInvalid => exact .inr ⟨.configError, nofun, rfl, rfl⟩
  | setpatMismatch | setmaskMismatch | setdigMismatch | setdpMismatch =>
    exact .inr ⟨.variantMismatch, nofun, rfl, rfl⟩
  | setpatIndex | setdigIndex | setdpIndex => exact .inr ⟨.badIndex, nofun, rfl, rfl⟩

/-! ### What each agent writes (R42) -/

/-- HOST's word is rejected for a reason, or it is the word of a command with that command's effect (R114). -/
theorem AgentEffect.host_cases {s t : State} {w : Word} (h : AgentEffect s (.host w) t) :
    (∃ c, c ≠ .none ∧ t = raiseFault c s) ∨ ∃ i, encode i = w ∧ CommandEffect s i t := by
  cases h with
  | rejected w c hc => exact .inl ⟨c, decodeFor_error hc, rfl⟩
  | command w i t hi he => exact .inr ⟨i, encode_of_decode (decode_of_decodeFor hi), he⟩

theorem AgentEffect.host_frame {s t : State} {w : Word} (h : AgentEffect s (.host w) t) :
    t = { s with charlieVal := t.charlieVal, ssdVal := t.ssdVal, ssdDot := t.ssdDot, period := t.period, tie := t.tie,
                 mode := t.mode, tcnt := t.tcnt, fault := t.fault, cause := t.cause } := by
  rcases h.host_cases with ⟨c, -, rfl⟩ | ⟨i, -, he⟩
  · rfl
  · exact he.frame

/-- `TIMER_EVENT` (R106) as one record. -/
theorem timerEvent_eq (s : State) : timerEvent s = { s with pend := true, ovr := s.ovr || s.pend } := by
  unfold timerEvent
  cases hp : s.pend with
  | false => simp [State.withPend]
  | true => simp [State.withOvr, hp.symm]

/-- `TCNT = PERIOD - 1` without wrap-around, as R105 counts. -/
theorem toNat_add_one_of_eq_pred {n p : Half} (hlt : n < p) (hn : n = p - 1#16) : n.toNat + 1 = p.toNat := by bv_omega

theorem AgentEffect.timer_frame {s t : State} (h : AgentEffect s .timer t) :
    t = { s with tcnt := t.tcnt, pend := t.pend, ovr := t.ovr } := by
  cases h with
  | notCounting => rfl
  | event => rw [timerEvent_eq]; rfl
  | count => rfl

/-- ENGINE's turn with no `TICK` enabled passes. -/
theorem AgentEffect.engine_idle {s t : State} (h : AgentEffect s .engine t) (he : tickEnabled s = false) : t = s := by
  cases h with
  | idleEngine => rfl
  | tickCharlie _ _ hen | tickSsd _ _ _ hen => simp [he] at hen

/-- A `TICK` of either variant blanks, drives and finishes (R78). -/
theorem AgentEffect.engine_tick {s t : State} (h : AgentEffect s .engine t) (he : tickEnabled s = true) :
    ∃ drive, t = finishTick (.neutral s.params.variant) drive s := by
  cases h with
  | idleEngine hen => simp [he] at hen
  | tickCharlie e ps _ hv => exact ⟨.charlie ps, by rw [hv]; rfl⟩
  | tickSsd d dp g _ hv => exact ⟨.ssd (withDp g dp) (1#4 <<< s.cursor.toNat), by rw [hv]; rfl⟩

theorem AgentEffect.engine_frame {s t : State} (h : AgentEffect s .engine t) :
    t = { s with cursor := t.cursor, pend := t.pend, pins := t.pins, seg := t.seg, dig := t.dig,
                 trace := t.trace } := by
  cases h <;> rfl

theorem AgentEffect.reset_eq {s t : State} (h : AgentEffect s .reset t) : t = s := by
  cases h; rfl

/-- Whose registers a step writes: a rejected word records its cause, a command has its effect, and any other agent
writes none of HOST's registers but the counter. -/
theorem AgentEffect.host_or_frame {s t : State} {e : AgentStep} (h : AgentEffect s e t) :
    (∃ w c, e = .host w ∧ c ≠ .none ∧ t = raiseFault c s) ∨ (∃ i, e = .host (encode i) ∧ CommandEffect s i t) ∨
      t = { s with tcnt := t.tcnt, pend := t.pend, ovr := t.ovr, cursor := t.cursor, pins := t.pins, seg := t.seg,
                   dig := t.dig, trace := t.trace } := by
  cases e with
  | host w =>
    rcases h.host_cases with ⟨c, hc⟩ | ⟨i, rfl, he⟩
    · exact .inl ⟨w, c, rfl, hc⟩
    · exact .inr (.inl ⟨i, rfl, he⟩)
  | timer => rw [h.timer_frame]; exact .inr (.inr rfl)
  | engine => rw [h.engine_frame]; exact .inr (.inr rfl)
  | reset => rw [h.reset_eq]; exact .inr (.inr rfl)

theorem AgentEffect.mode_write {s t : State} {e : AgentStep} (h : AgentEffect s e t) :
    t.mode = s.mode ∨
      (e = .host 0x02000000#32 ∧ s.mode = .idle ∧
        ((s.period ≠ 0#16 ∧ t.mode = .running) ∨ (s.period = 0#16 ∧ t.mode = .faulted))) := by
  rcases h.host_or_frame with ⟨w, c, -, -, rfl⟩ | ⟨i, rfl, he⟩ | hframe
  · exact .inl rfl
  · rcases he.mode_write with ⟨hm, -⟩ | ⟨rfl, hstart⟩
    · exact .inl hm
    · exact .inr ⟨rfl, hstart⟩
  · exact .inl (congrArg State.mode hframe :)

theorem AgentEffect.period_write {s t : State} {e : AgentStep} (h : AgentEffect s e t) :
    t.period = s.period ∨ (s.mode = .idle ∧ e = .host (encode (.cfgper t.period))) := by
  rcases h.host_or_frame with ⟨w, c, -, -, rfl⟩ | ⟨i, rfl, he⟩ | hframe
  · exact .inl rfl
  · exact he.period_write.imp_right fun ⟨hm, hi⟩ => ⟨hm, by rw [← hi]⟩
  · exact .inl (congrArg State.period hframe :)

theorem AgentEffect.tie_write {s t : State} {e : AgentStep} (h : AgentEffect s e t) :
    t.tie = s.tie ∨ e = .host (encode (.tie t.tie)) := by
  rcases h.host_or_frame with ⟨w, c, -, -, rfl⟩ | ⟨i, rfl, he⟩ | hframe
  · exact .inl rfl
  · exact he.tie_write.imp_right fun hi => by rw [← hi]
  · exact .inl (congrArg State.tie hframe :)

theorem AgentEffect.fault_write {s t : State} {e : AgentStep} (h : AgentEffect s e t) :
    (t.fault = s.fault ∧ t.cause = s.cause) ∨
      ∃ w c, e = .host w ∧ c ≠ .none ∧ t.fault = true ∧ t.cause = if s.fault then s.cause else c := by
  rcases h.host_or_frame with ⟨w, c, he, hc, rfl⟩ | ⟨i, rfl, he⟩ | hframe
  · exact .inr ⟨w, c, he, hc, rfl, rfl⟩
  · exact he.fault_write.imp_right fun ⟨c, hc⟩ => ⟨_, c, rfl, hc⟩
  · exact .inl ⟨(congrArg State.fault hframe :), (congrArg State.cause hframe :)⟩

/-- `PEND` is set by a timer event and cleared by a `TICK` (R27). -/
theorem AgentEffect.pend_write {s t : State} {e : AgentStep} (h : AgentEffect s e t) :
    t.pend = s.pend ∨
      (e = .timer ∧ s.mode = .running ∧ s.tcnt.toNat + 1 = s.period.toNat ∧ t.pend = true) ∨
        (e = .engine ∧ tickEnabled s = true ∧ t.pend = false) := by
  cases h with
  | rejected | notCounting | count | idleEngine | resetPasses => exact .inl rfl
  | command w i t hi he => exact .inl (congrArg State.pend he.frame :)
  | event hm hp he => exact .inr (.inl ⟨rfl, hm, toNat_add_one_of_eq_pred hp he, by rw [timerEvent_eq]⟩)
  | tickCharlie _ _ hen | tickSsd _ _ _ hen => exact .inr (.inr ⟨rfl, hen, rfl⟩)

/-- `OVR` is set by a timer event that finds `PEND` set (R28). -/
theorem AgentEffect.ovr_write {s t : State} {e : AgentStep} (h : AgentEffect s e t) :
    t.ovr = s.ovr ∨
      (e = .timer ∧ s.mode = .running ∧ s.tcnt.toNat + 1 = s.period.toNat ∧ s.pend = true ∧ t.ovr = true) := by
  cases h with
  | rejected | notCounting | count | idleEngine | resetPasses | tickCharlie | tickSsd => exact .inl rfl
  | command w i t hi he => exact .inl (congrArg State.ovr he.frame :)
  | event hm hp he =>
    rw [timerEvent_eq]
    cases hpend : s.pend with
    | false => exact .inl (by simp [hpend])
    | true => exact .inr ⟨rfl, hm, toNat_add_one_of_eq_pred hp he, rfl, by simp [hpend]⟩

/-! ### The turn a step takes -/

theorem delivers_iff (w : Word) (s : State) :
    delivers w s = true ↔ steps s = true ∧ (nextTurn s).1 = .host w := by
  simp [delivers]

theorem takesTick_iff (s : State) :
    takesTick s = true ↔ steps s = true ∧ (nextTurn s).1 = .engine ∧ tickEnabled s = true := by
  simp [takesTick, and_assoc]

theorem raisesEvent_iff (s : State) :
    raisesEvent s = true ↔
      steps s = true ∧ (nextTurn s).1 = .timer ∧ s.mode = .running ∧ s.tcnt.toNat + 1 = s.period.toNat := by
  simp [raisesEvent, takesTclk, and_assoc]

/-- R83's cursor: the next slot, round the variant's slots. -/
theorem toNat_nextCursor (v : Variant) (c : BitVec 3) : (nextCursor v c).toNat = (c.toNat + 1) % v.nslots := by
  have h6 : (c.toNat + 1) % 6 < 6 := Nat.mod_lt _ (by decide)
  have h4 : (c.toNat + 1) % 4 < 4 := Nat.mod_lt _ (by decide)
  rw [nextCursor, BitVec.toNat_ofNat]
  cases v with
  | charlie => exact Nat.mod_eq_of_lt (by simp only [Variant.nslots]; omega)
  | ssd => exact Nat.mod_eq_of_lt (by simp only [Variant.nslots]; omega)

theorem AgentEffect.cursor_of_tick {s t : State} (h : AgentEffect s .engine t) (he : tickEnabled s = true) :
    t.cursor = nextCursor s.params.variant s.cursor := by
  obtain ⟨drive, rfl⟩ := h.engine_tick he
  rfl

theorem AgentEffect.cursor_of_not_tick {s t : State} {e : AgentStep} (h : AgentEffect s e t)
    (he : ¬ (e = .engine ∧ tickEnabled s = true)) : t.cursor = s.cursor := by
  cases e with
  | host w => exact (congrArg State.cursor h.host_frame :)
  | timer => exact (congrArg State.cursor h.timer_frame :)
  | engine => rw [h.engine_idle (by simpa using he)]
  | reset => rw [h.reset_eq]

/-! ### At most one slot is driven (R89) -/

theorem atMostOneSlot_neutral (p : Params) : AtMostOneSlot p (.neutral p.variant) := by
  cases hv : p.variant with
  | charlie =>
    have hcount : pinCount .H Pins.allZ + pinCount .L Pins.allZ = 0 := by decide
    exact ⟨hv, by omega, fun h2 => by omega⟩
  | ssd => exact ⟨hv, by decide⟩

/-- Three distinct pins of 0..2 are all of them, in one of six orders. -/
theorem pin_orders {a b f : BitVec 2} (ha : a.toNat < 3) (hb : b.toNat < 3) (hf : f.toNat < 3) (hab : a ≠ b)
    (haf : a ≠ f) (hbf : b ≠ f) :
    (a = 0#2 ∧ b = 1#2 ∧ f = 2#2) ∨ (a = 0#2 ∧ b = 2#2 ∧ f = 1#2) ∨ (a = 1#2 ∧ b = 0#2 ∧ f = 2#2) ∨
      (a = 1#2 ∧ b = 2#2 ∧ f = 0#2) ∨ (a = 2#2 ∧ b = 0#2 ∧ f = 1#2) ∨ (a = 2#2 ∧ b = 1#2 ∧ f = 0#2) := by
  have hpin : ∀ {i : BitVec 2}, i.toNat < 3 → i = 0#2 ∨ i = 1#2 ∨ i = 2#2 := by decide
  rcases hpin ha with rfl | rfl | rfl <;> rcases hpin hb with rfl | rfl | rfl <;>
    rcases hpin hf with rfl | rfl | rfl <;> simp at hab haf hbf ⊢

/-- A well-formed entry drives pins `pa` and `pb` to opposite levels and nothing else (R101). -/
theorem chDrive_pins {e : Byte} {ps : Pins} (he : mapEntryOk e = true) (h : chDrive e = some ps) :
    pinAt ps (mapPa e) = some (levelA (mapPol e)) ∧ pinAt ps (mapPb e) = some (levelB (mapPol e)) ∧
      pinAt ps (mapPf e) = some .Z ∧ pinCount .H ps = 1 ∧ pinCount .L ps = 1 ∧ pinCount .Z ps = 1 := by
  obtain ⟨ha, hb, hf, hab, haf, hbf, -⟩ := (mapEntryOk_iff e).1 he
  unfold chDrive at h
  generalize mapPol e = pol at h ⊢
  rcases pin_orders ha hb hf hab haf hbf with
      ⟨ha, hb, hf⟩ | ⟨ha, hb, hf⟩ | ⟨ha, hb, hf⟩ | ⟨ha, hb, hf⟩ | ⟨ha, hb, hf⟩ | ⟨ha, hb, hf⟩ <;>
    rw [ha, hb, hf] at h ⊢ <;> cases pol <;> cases h <;> decide

/-- A slot's drive drives that slot alone, or no slot (R85, R101). -/
theorem atMostOneSlot_charlieDrive {p : Params} {v : Byte} {c : BitVec 3} {i : Fin 6} {ps : Pins}
    (hv : p.variant = .charlie) (hp : p.legal = true)
    (h : charlieDrive v c p.charlieMap[i] = some ps) : AtMostOneSlot p (.charlie ps) := by
  obtain ⟨-, hmap, -⟩ := (Params.legal_iff p).1 hp
  have he := ((charlieMapOk_iff _).1 hmap).1 i
  unfold charlieDrive at h
  split_ifs at h
  · obtain ⟨ha, hb, -, hhigh, hlow, -⟩ := chDrive_pins he h
    refine ⟨hv, by omega, fun _ => ⟨hhigh, hlow, i, ?_, ?_⟩⟩
    · rw [ha]; cases mapPol p.charlieMap[i] <;> decide
    · rw [hb]; cases mapPol p.charlieMap[i] <;> decide
  · cases h
    have hneutral := atMostOneSlot_neutral p
    rwa [hv] at hneutral

theorem digCount_shiftLeft : ∀ c : BitVec 3, digCount (1#4 <<< c.toNat) ≤ 1 := by decide

/-! ### The invariant (R36, R41, R43, R89) -/

/-- The writes of the display registers and of `TIE` touch nothing the invariant speaks of. -/
theorem Invariant.displayWritten {s : State} (h : Invariant s) (cv : Byte) (sv : Vector Byte 4) (sd : Vector Bool 4)
    (b : Bool) : Invariant { s with charlieVal := cv, ssdVal := sv, ssdDot := sd, tie := b } :=
  { h with }

theorem Invariant.raiseFault {s : State} (h : Invariant s) {c : Cause} (hc : c ≠ .none) :
    Invariant (raiseFault c s) :=
  { h with
    causeFault := by
      cases hf : s.fault with
      | false => simp [hf, hc]
      | true =>
        have hs : s.cause ≠ .none := fun h0 => by simp [h.causeFault.1 h0] at hf
        simp [hf, hs] }

/-- `PERIOD` is free to change while nothing counts. -/
theorem Invariant.withPeriod {s : State} (h : Invariant s) (hm : s.mode ≠ .running) (p : Half) :
    Invariant (s.withPeriod p) :=
  { h with counting := fun hr => absurd hr hm }

theorem Invariant.started {s : State} (h : Invariant s) (hp : s.period ≠ 0#16) :
    Invariant ((s.withMode .running).withTcnt 0#16) :=
  have hpos : 1 ≤ s.period.toNat := by bv_omega
  { h with
    counting := fun _ => ⟨hpos, hpos⟩
    notCounting := fun hne => absurd rfl hne }

theorem Invariant.startRefused {s : State} (h : Invariant s) (hm : s.mode = .idle) :
    Invariant (s.withMode .faulted) :=
  { h with
    counting := nofun
    notCounting := fun _ => h.notCounting (by simp [hm]) }

theorem Invariant.command {s t : State} {i : Instr} (h : Invariant s) (he : CommandEffect s i t) : Invariant t := by
  cases he with
  | nop => exact h
  | cfgper p hm => exact h.withPeriod (by simp [hm]) p
  | start _ hp => exact h.started hp
  | startInvalid hm => exact (h.startRefused hm).raiseFault nofun
  | tie | setpat | setmask | setdig | setdp => exact h.displayWritten _ _ _ _
  | _ => exact h.raiseFault nofun

theorem Invariant.counted {s : State} (h : Invariant s) (hm : s.mode = .running) {n : Half}
    (hn : n.toNat < s.period.toNat) : Invariant (s.withTcnt n) :=
  { h with
    counting := fun _ => ⟨(h.counting hm).1, hn⟩
    notCounting := fun hne => absurd hm hne }

theorem Invariant.timerEvent {s : State} (h : Invariant s) (hm : s.mode = .running) : Invariant (timerEvent s) := by
  rw [timerEvent_eq]
  exact { h with notCounting := fun hne => absurd hm hne }

theorem outputs_finishTick {blank drive : OutVec} {s : State} (h : AtMostOneSlot s.params drive) :
    outputs (finishTick blank drive s) = drive := by
  cases drive with
  | charlie ps => simp [outputs, finishTick, h.1, pinsAfter]
  | ssd seg dig => simp [outputs, finishTick, h.1, segAfter, digAfter]

/-- A `TICK` emits two vectors that show at most one slot each, the second being what the outputs then hold. -/
theorem Invariant.tick {s : State} (h : Invariant s) (hen : tickEnabled s = true) {blank drive : OutVec}
    (hblank : AtMostOneSlot s.params blank) (hdrive : AtMostOneSlot s.params drive) :
    Invariant (finishTick blank drive s) :=
  have hm := ((tickEnabled_iff s).1 hen).1
  { h with
    cursorRange := by
      show (nextCursor s.params.variant s.cursor).toNat < s.params.variant.nslots
      rw [toNat_nextCursor]
      exact Nat.mod_lt _ s.params.variant.nslots_pos
    notCounting := fun hne => absurd hm hne
    outputsLast := by
      rw [outputs_finishTick hdrive]
      exact List.getLast?_concat
    oneSlot := by
      show ∀ v ∈ s.trace ++ [blank] ++ [drive], AtMostOneSlot s.params v
      simpa [or_imp, forall_and, hblank, hdrive] using h.oneSlot }

/-- Every agent's step keeps the invariant. -/
theorem Invariant.agentEffect {s t : State} {e : AgentStep} (h : Invariant s) (he : AgentEffect s e t) :
    Invariant t := by
  have hneutral := atMostOneSlot_neutral s.params
  cases he with
  | rejected w c hc => exact h.raiseFault (decodeFor_error hc)
  | command w i t _ he => exact h.command he
  | notCounting | idleEngine | resetPasses => exact h
  | event hm => exact (h.counted hm (n := 0#16) (h.counting hm).1).timerEvent hm
  | count hm hlt hne => exact h.counted hm (by bv_omega)
  | tickCharlie e ps hen hv he hd =>
    have hc : s.cursor.toNat < 6 := by simpa [hv, Variant.nslots] using h.cursorRange
    rw [memRead_romCharlie hv hc] at he
    cases he
    rw [hv] at hneutral
    exact h.tick hen hneutral (atMostOneSlot_charlieDrive (i := ⟨s.cursor.toNat, hc⟩) hv h.paramsLegal hd)
  | tickSsd d dp g hen hv =>
    rw [hv] at hneutral
    exact h.tick hen hneutral ⟨hv, digCount_shiftLeft s.cursor⟩

/-! ### The statements of the state -/

/-- Settles O51: the turn taken and then the agent's step keep the invariant. -/
theorem invariantKept : Obligations.InvariantKept := by
  intro s t h hstep
  obtain ⟨a, n, -, -, heff⟩ := step_effect h.booted hstep
  exact (h.scheduled a n).agentEffect heff

/-- Settles O50: field by field of the reset state. -/
theorem invariantAtReset : Obligations.InvariantAtReset := by
  intro p hp
  exact
    { paramsLegal := hp
      booted := rfl
      cursorRange := p.variant.nslots_pos
      causeFault := ⟨fun _ => rfl, fun _ => rfl⟩
      counting := nofun
      notCounting := fun _ => ⟨rfl, rfl⟩
      outputsLast := by cases hv : p.variant <;> simp [State.resetOf, outputs, OutVec.neutral, hv]
      oneSlot := by simpa [State.resetOf] using atMostOneSlot_neutral p }

/-- Settles O28: the fields of the word, MODE and CAUSE by their codes. -/
theorem statusWordLayout : Obligations.StatusWordLayout := by
  intro s
  obtain ⟨htie, hpend, hovr, hfault⟩ := getLsbD_statusWord s
  refine ⟨?_, htie, hpend, hovr, hfault, ?_, extractLsb'_statusWord_cursor s, extractLsb'_statusWord_zero s⟩
  · rw [extractLsb'_statusWord_mode]
    cases s.mode <;> rfl
  · rw [extractLsb'_statusWord_cause]
    cases s.cause <;> rfl

/-- Settles O8: each of the three cases breaks one half of `legalState`. -/
theorem ruledOutStateStops : Obligations.RuledOutStateStops := by
  intro s hp hb hbad
  refine step_of_not_legalState hp hb fun hl => ?_
  obtain ⟨hcursor, hcause⟩ := (legalState_iff s).1 hl
  rcases hbad with ⟨hv, h6⟩ | ⟨hv, h4⟩ | hne
  · rw [hv] at hcursor
    exact absurd hcursor (not_lt.2 h6)
  · rw [hv] at hcursor
    exact absurd hcursor (not_lt.2 h4)
  · exact hne hcause

/-- Settles O24: each effect of the command is a record update of the registers its frame names. -/
theorem commandFrames : Obligations.CommandFrames := by
  intro i s t h
  cases exec_next h <;> rfl

/-- Settles O45: after RESET by the frame of the agent's effect, before it by the two kinds of turn. -/
theorem accessMatrix : Obligations.AccessMatrix := by
  intro s t h
  obtain ⟨a, n, hturn⟩ := nextTurn_snd s
  refine ⟨a, n, fun hb => ?_, fun hb => ?_⟩
  · obtain ⟨a', n', hturn', -, heff⟩ := step_effect hb h
    rw [← hturn', hturn] at heff
    cases he : (nextTurn s).1 with
    | host w =>
      rw [he] at heff
      refine ⟨heff.host_frame, fun hw => ?_⟩
      rcases heff.host_cases with ⟨c, -, rfl⟩ | ⟨i, rfl, hi⟩
      · exact ⟨rfl, rfl⟩
      · rcases hi.mode_write with hkept | ⟨rfl, -⟩
        · exact hkept
        · exact absurd rfl hw
    | timer =>
      rw [he] at heff
      exact heff.timer_frame
    | engine =>
      rw [he] at heff
      refine ⟨heff.engine_frame, fun hpend => ?_⟩
      rcases heff.pend_write with hp | ⟨hne, -⟩ | ⟨-, -, hp⟩
      · exact hp.symm.trans hpend
      · cases hne
      · simp [hp] at hpend
    | reset =>
      rw [he] at heff
      exact heff.reset_eq
  · obtain ⟨-, ⟨hb', -⟩ | ⟨-, rfl⟩⟩ := step_next h
    · simp [hb] at hb'
    · rw [hturn]
      cases (nextTurn s).1 <;> rfl

/-- Settles O46: MODE is written by an accepted `START` alone. -/
theorem modeTransitions : Obligations.ModeTransitions := by
  intro s t hb h
  obtain ⟨a, n, -, hsteps, heff⟩ := step_effect hb h
  rcases heff.mode_write with hm | ⟨hturn, hidle, hstart⟩
  · exact .inl hm
  · exact .inr ⟨hidle, (delivers_iff _ s).2 ⟨hsteps, hturn⟩, hstart⟩

/-- Settles O47: PERIOD is written by an accepted `CFGPER` alone. -/
theorem periodLocked : Obligations.PeriodLocked := by
  intro s t hb h
  obtain ⟨a, n, -, hsteps, heff⟩ := step_effect hb h
  rcases heff.period_write with hp | ⟨hidle, hturn⟩
  · exact ⟨fun _ => hp, fun hne => absurd hp hne⟩
  · rw [encode_cfgper] at hturn
    exact ⟨fun hm => absurd hidle hm, fun _ => (delivers_iff _ s).2 ⟨hsteps, hturn⟩⟩

/-- Settles O48: the cursor of a `TICK`, and of every other step. -/
theorem cursorOwnedByEngine : Obligations.CursorOwnedByEngine := by
  intro s t hb h
  obtain ⟨a, n, -, hsteps, heff⟩ := step_effect hb h
  refine ⟨fun hno => heff.cursor_of_not_tick fun ⟨hturn, hen⟩ => ?_, fun htick => ?_⟩
  · rw [(takesTick_iff s).2 ⟨hsteps, hturn, hen⟩] at hno
    cases hno
  · obtain ⟨-, hturn, hen⟩ := (takesTick_iff s).1 htick
    rw [hturn] at heff
    rw [heff.cursor_of_tick hen]
    exact toNat_nextCursor s.params.variant s.cursor

/-- Settles O49: flag by flag, from the lemma that says which step writes it. -/
theorem flagTable : Obligations.FlagTable := by
  intro s t hb h
  obtain ⟨a, n, -, hsteps, heff⟩ := step_effect hb h
  refine ⟨fun hs ht => ?_, fun hs ht => ?_, fun hs => ?_, fun hs ht => ?_, fun hs ht => ?_, fun hs => ?_,
    fun hs ht => ?_, fun hne => ?_⟩
  · rcases heff.pend_write with hp | ⟨hturn, hm, hlast, -⟩ | ⟨-, -, hp⟩
    · simp [hp, hs] at ht
    · exact (raisesEvent_iff s).2 ⟨hsteps, hturn, hm, hlast⟩
    · simp [hp] at ht
  · rcases heff.pend_write with hp | ⟨-, -, -, hp⟩ | ⟨hturn, hen, -⟩
    · simp [hp, hs] at ht
    · simp [hp] at ht
    · exact (takesTick_iff s).2 ⟨hsteps, hturn, hen⟩
  · rcases heff.ovr_write with ho | ⟨-, -, -, -, ho⟩
    · exact ho.trans hs
    · exact ho
  · rcases heff.ovr_write with ho | ⟨hturn, hm, hlast, hpend, -⟩
    · simp [ho, hs] at ht
    · exact ⟨(raisesEvent_iff s).2 ⟨hsteps, hturn, hm, hlast⟩, hpend⟩
  · rcases heff.fault_write with ⟨hf, -⟩ | ⟨w, c, hturn, hc, -, hcause⟩
    · simp [hf, hs] at ht
    · exact ⟨⟨w, (delivers_iff w s).2 ⟨hsteps, hturn⟩⟩, by simpa [hcause, hs] using hc⟩
  · rcases heff.fault_write with ⟨hf, hcause⟩ | ⟨w, c, -, -, hf, hcause⟩
    · exact ⟨hf.trans hs, hcause⟩
    · exact ⟨hf, by simp [hcause, hs]⟩
  · rcases heff.fault_write with ⟨-, hcause⟩ | ⟨w, c, -, -, hf, -⟩
    · exact hcause
    · simp [hf] at ht
  · rcases heff.tie_write with htie | hturn
    · exact absurd htie hne
    · rw [encode_tie] at hturn
      exact (delivers_iff _ s).2 ⟨hsteps, hturn⟩

end Sys2Proof.Machine

/-!
PROOFS. The statements of 20_memory.md: the pattern ROM space, what repeating a command does, and the window that
`TIE = 0` holds. First the laws they cite, in the order of the definitions they speak of.
-/
namespace Sys2Proof.Machine

/-! ### The pattern ROM space (R45) -/

/-- The ROM as the SSD variant has it: the glyphs, six zero bytes, and nothing above (assumption log 16). -/
theorem memRead_ssd {p : Params} (hv : p.variant = .ssd) (a : Byte) :
    memRead p a =
      if a.toNat < 10 then p.glyphRom[a.toNat]? else if a.toNat < 16 then some 0x00#8 else none := by
  simp only [memRead, hv]

/-- The ROM as the CHARLIE variant has it: the map's entries, and nothing below or above (assumption log 16). -/
theorem memRead_charlie {p : Params} (hv : p.variant = .charlie) (a : Byte) :
    memRead p a = if 16 ≤ a.toNat then p.charlieMap[a.toNat - 16]? else none := by
  simp only [memRead, hv]

/-! ### A command repeated (R52) -/

/-- Writing one bit twice is writing it once. -/
theorem setBit_setBit (v : Byte) (i : Nat) (b : Bool) : setBit (setBit v i b) i b = setBit v i b := by
  cases b with
  | false => simp [setBit, BitVec.and_assoc]
  | true => simp [setBit, BitVec.or_assoc]

/-- After `START` the mode is no longer IDLE, whether it was accepted, invalid or locked (R117). -/
theorem CommandEffect.start_not_idle {s t : State} (h : CommandEffect s .start t) : t.mode ≠ .idle := by
  cases h with
  | start => exact nofun
  | startInvalid => exact nofun
  | startLocked hm => exact hm

/-- A command repeated in the state it left finds its register written already, or records a fault. -/
theorem CommandEffect.repeated {s t u : State} {i : Instr} (h : CommandEffect s i t) (h' : CommandEffect t i u) :
    u = t ∨ ∃ c, u = raiseFault c t := by
  cases h' with
  | nop => exact .inl rfl
  | cfgper p hm =>
    cases h with
    | cfgper => exact .inl rfl
    | cfgperLocked _ hl => exact absurd hm hl
  | start hm | startInvalid hm => exact absurd hm h.start_not_idle
  | tie b => cases h; exact .inl rfl
  | setpat i b hv hi =>
    cases h with
    | setpat => exact .inl (congrArg (State.withCharlieVal · s) (setBit_setBit s.charlieVal i.toNat b))
    | setpatMismatch _ _ hne => exact absurd hv hne
    | setpatIndex _ _ _ hge => exact absurd hi (not_lt.2 hge)
  | setmask m hv =>
    cases h with
    | setmask => exact .inl rfl
    | setmaskMismatch _ hne => exact absurd hv hne
  | setdig i v hv hi =>
    cases h with
    | setdig => exact .inl (congrArg (State.withSsdVal · s) (Vector.setIfInBounds_setIfInBounds v))
    | setdigMismatch _ _ hne => exact absurd hv hne
    | setdigIndex _ _ _ hge => exact absurd hi (not_lt.2 hge)
  | setdp i b hv hi =>
    cases h with
    | setdp => exact .inl (congrArg (State.withSsdDot · s) (Vector.setIfInBounds_setIfInBounds b))
    | setdpMismatch _ _ hne => exact absurd hv hne
    | setdpIndex _ _ _ hge => exact absurd hi (not_lt.2 hge)
  | cfgperLocked | startLocked | setpatMismatch | setpatIndex | setmaskMismatch | setdigMismatch | setdigIndex
  | setdpMismatch | setdpIndex => exact .inr ⟨_, rfl⟩

/-! ### Steps and runs that take no `TICK` (R36, R57) -/

theorem countAlong_succ {p : State → Bool} {k : Nat} {s u : State} (h : step s = .next u) :
    countAlong p (k + 1) s = (if p s then 1 else 0) + countAlong p k u := by
  simp only [countAlong, h]

theorem holdsAlong_succ {p : State → Prop} {k : Nat} {s u : State} (h : step s = .next u) :
    holdsAlong p (k + 1) s ↔ p s ∧ holdsAlong p k u := by
  simp only [holdsAlong, h]

/-- The output ports and the trace are written by `TICK` alone (R36, R42). -/
theorem AgentEffect.outputs_of_not_tick {s t : State} {e : AgentStep} (h : AgentEffect s e t)
    (he : ¬ (e = .engine ∧ tickEnabled s = true)) :
    t.trace = s.trace ∧ t.pins = s.pins ∧ t.seg = s.seg ∧ t.dig = s.dig := by
  cases e with
  | host w => rw [h.host_frame]; exact ⟨rfl, rfl, rfl, rfl⟩
  | timer => rw [h.timer_frame]; exact ⟨rfl, rfl, rfl, rfl⟩
  | engine => rw [h.engine_idle (by simpa using he)]; exact ⟨rfl, rfl, rfl, rfl⟩
  | reset => rw [h.reset_eq]; exact ⟨rfl, rfl, rfl, rfl⟩

/-- A step that is no `TICK` emits nothing. -/
theorem outputs_of_not_takesTick {s t : State} (hb : s.booted = true) (h : step s = .next t)
    (hno : takesTick s = false) : t.trace = s.trace ∧ t.pins = s.pins ∧ t.seg = s.seg ∧ t.dig = s.dig := by
  obtain ⟨a, n, -, hsteps, heff⟩ := step_effect hb h
  refine heff.outputs_of_not_tick fun ⟨hturn, hen⟩ => ?_
  rw [(takesTick_iff s).2 ⟨hsteps, hturn, hen⟩] at hno
  cases hno

/-- With `TIE = 0` no `TICK` is enabled (R24, R77). -/
theorem takesTick_of_not_tie {s : State} (h : s.tie = false) : takesTick s = false := by
  simp [takesTick, tickEnabled, h]

/-- What a window held by `TIE = 0` keeps between two of its states: `TIE`, the cursor, the trace, the outputs, and a
pending tick (R57). -/
structure HeldBetween (s t : State) : Prop where
  tie : t.tie = false
  cursor : t.cursor = s.cursor
  trace : t.trace = s.trace
  pins : t.pins = s.pins
  seg : t.seg = s.seg
  dig : t.dig = s.dig
  pend : s.pend = true → t.pend = true

theorem HeldBetween.refl {s : State} (h : s.tie = false) : HeldBetween s s :=
  ⟨h, rfl, rfl, rfl, rfl, rfl, id⟩

theorem HeldBetween.trans {s u t : State} (h : HeldBetween s u) (h' : HeldBetween u t) : HeldBetween s t :=
  { tie := h'.tie
    cursor := h'.cursor.trans h.cursor
    trace := h'.trace.trans h.trace
    pins := h'.pins.trans h.pins
    seg := h'.seg.trans h.seg
    dig := h'.dig.trans h.dig
    pend := fun hp => h'.pend (h.pend hp) }

/-- One step of any agent in a held window: it is no `TICK`, and only `TIE #1` could open the window (R31). -/
theorem heldBetween_of_step {s t : State} (hb : s.booted = true) (htie : s.tie = false)
    (hno : delivers 0x03000001#32 s = false) (h : step s = .next t) : HeldBetween s t := by
  have hnotick := takesTick_of_not_tie htie
  obtain ⟨htrace, hpins, hseg, hdig⟩ := outputs_of_not_takesTick hb h hnotick
  obtain ⟨-, hpendClear, -, -, -, -, -, htieWrite⟩ := flagTable s t hb h
  refine ⟨?_, (cursorOwnedByEngine s t hb h).1 hnotick, htrace, hpins, hseg, hdig, fun hpend => ?_⟩
  · by_contra ht
    have hdelivers := htieWrite (by simp [ht, htie])
    rw [if_pos (by simpa using ht), hno] at hdelivers
    cases hdelivers
  · by_contra ht
    have htick := hpendClear hpend (by simpa using ht)
    simp [hnotick] at htick

/-- Along a held window: no `TICK`, and everything the window keeps. -/
theorem heldBetween_of_run {k : Nat} {s t : State} (hinv : Invariant s) (htie : s.tie = false)
    (hrun : runsTo k s t) (hno : holdsAlong (fun u => delivers 0x03000001#32 u = false) k s) :
    countAlong takesTick k s = 0 ∧ HeldBetween s t := by
  induction k generalizing s with
  | zero =>
    obtain rfl := runsTo_zero.1 hrun
    exact ⟨rfl, .refl htie⟩
  | succ k ih =>
    obtain ⟨u, hstep, hrest⟩ := runsTo_succ.1 hrun
    obtain ⟨hfirst, hno⟩ := (holdsAlong_succ hstep).1 hno
    have hheld := heldBetween_of_step hinv.booted htie hfirst hstep
    obtain ⟨hcount, hheld'⟩ := ih (invariantKept s u hinv hstep) hheld.tie hrest hno
    rw [countAlong_succ hstep, takesTick_of_not_tie htie, hcount]
    exact ⟨rfl, hheld.trans hheld'⟩

/-! ### The statements of the memory spaces -/

/-- Settles O57: the window's steps by induction on the run. -/
theorem heldWindow : Obligations.HeldWindow := by
  intro k s t hinv htie hrun hno
  obtain ⟨hcount, hheld⟩ := heldBetween_of_run hinv htie hrun hno
  exact ⟨hcount, hheld.tie, hheld.cursor, hheld.trace, hheld.pins, hheld.seg, hheld.dig, hheld.pend⟩

/-- Settles O27: the second run of the command changes nothing but `FAULT` and `CAUSE`. -/
theorem repeatedCommand : Obligations.RepeatedCommand := by
  intro i s t u h h'
  rcases (exec_next h).repeated (exec_next h') with rfl | ⟨c, rfl⟩
  · rfl
  · rfl

/-- Settles O35: address range by address range of each variant's half. -/
theorem romMap : Obligations.RomMap := by
  intro p a
  refine ⟨fun hv => ?_, fun hv => ?_⟩
  · rw [memRead_ssd hv]
    refine ⟨fun d hd => ?_, fun ⟨hlow, hhigh⟩ => ?_, fun hlow => ?_⟩
    · simp [hd]
    · rw [if_neg (by omega), if_pos (by omega)]
    · rw [if_neg (by omega), if_neg (by omega)]
  · rw [memRead_charlie hv]
    refine ⟨fun i hi => ?_, fun ha => ?_⟩
    · simp [hi]
    · rcases ha with hlow | hhigh
      · rw [if_neg (by omega)]
      · rw [if_pos (by omega), Vector.getElem?_eq_none (by omega)]

end Sys2Proof.Machine

/-!
PROOFS. The statements of 30_encoding.md: decode and encode agree both ways, the opcode map, the order of the decode
checks, and the assembler's words. First the laws they cite, in the order of the definitions they speak of.
-/
namespace Sys2Proof

/-! ### Decoding what was encoded (R62 to R68) -/

/-- Every command's word has its opcode and passes the reserved-bit check. -/
theorem encode_passes_checks (i : Instr) :
    opField (encode i) = i.opcode.code ∧ encode i &&& i.opcode.maskWord = i.opcode.matchWord := by
  cases i with
  | nop => exact Laws.Encoding.nop
  | cfgper p => exact Laws.Encoding.cfgper p
  | start => exact Laws.Encoding.start
  | tie b => exact Laws.Encoding.tie b
  | setpat s b => exact Laws.Encoding.setpat s b
  | setmask m => exact Laws.Encoding.setmask m
  | setdig s v => exact Laws.Encoding.setdig s v
  | setdp s b => exact Laws.Encoding.setdp s b

/-- Operand assembly reads back each field that `encode` packed. -/
theorem operands_encode (i : Instr) : i.opcode.operands (encode i) = i := by
  cases i with
  | nop => rfl
  | cfgper p => exact congrArg Instr.cfgper (dataField_packWord _ _ p)
  | start => rfl
  | tie b => exact congrArg Instr.tie (flagOperand_packWord _ _ b)
  | setpat s b => exact congrArg₂ Instr.setpat (idxField_packWord _ s _) (flagOperand_packWord _ s b)
  | setmask m => exact congrArg Instr.setmask (byteOperand_packWord _ _ m)
  | setdig s v => exact congrArg₂ Instr.setdig (idxField_packWord _ s _) (byteOperand_packWord _ s v)
  | setdp s b => exact congrArg₂ Instr.setdp (idxField_packWord _ s _) (flagOperand_packWord _ s b)

/-! ### The rows of the opcode map (R68) -/

/-- The opcodes, in the order of R68's rows. -/
def Opcode.rows : List Opcode := [.nop, .cfgper, .start, .tie, .setpat, .setmask, .setdig, .setdp]

theorem Opcode.mem_rows (op : Opcode) : op ∈ Opcode.rows := by cases op <;> decide

/-- Each row has an `OP` value of its own. -/
theorem Opcode.nodup_code_rows : (Opcode.rows.map Opcode.code).Nodup := by decide

/-- Each row's mask covers all of `OP`, so a word that matches the row has its opcode. -/
theorem opField_of_match {w : Word} {op : Opcode} (h : w &&& op.maskWord = op.matchWord) : opField w = op.code := by
  have hmask : opField op.maskWord = BitVec.allOnes 8 := by cases op <;> rfl
  calc opField w = opField w &&& opField op.maskWord := by rw [hmask, BitVec.and_allOnes]
    _ = opField (w &&& op.maskWord) := BitVec.extractLsb'_and.symm
    _ = opField op.matchWord := by rw [h]
    _ = op.code := by cases op <;> rfl

/-- The decoder accepts the words that match a row, and no other. -/
theorem exists_decode_ok_iff (w : Word) :
    (∃ i, decode w = .ok i) ↔ ∃ op : Opcode, w &&& op.maskWord = op.matchWord := by
  constructor
  · rintro ⟨i, hi⟩
    obtain ⟨op, -, hmatch, -⟩ := decode_ok.1 hi
    exact ⟨op, hmatch⟩
  · rintro ⟨op, hmatch⟩
    exact ⟨op.operands w, decode_ok.2 ⟨op, opField_of_match hmatch, hmatch, rfl⟩⟩

/-- No word matches two rows: their `OP` values differ. -/
theorem countP_match_rows_le_one (w : Word) :
    Opcode.rows.countP (fun op => decide (w &&& op.maskWord = op.matchWord)) ≤ 1 :=
  calc Opcode.rows.countP (fun op => decide (w &&& op.maskWord = op.matchWord))
      ≤ Opcode.rows.countP (fun op => op.code == opField w) :=
        List.countP_mono_left fun op _ h => by simp [opField_of_match (of_decide_eq_true h)]
    _ = (Opcode.rows.map Opcode.code).count (opField w) := by rw [List.count, List.countP_map]; rfl
    _ ≤ 1 := List.nodup_iff_count_le_one.1 Opcode.nodup_code_rows _

/-! ### The decode checks, opcode by opcode (R69, R71) -/

/-- The opcode map leaves out the bytes that are no row's `OP` value (R70). -/
theorem ofByte_eq_none_iff (b : Byte) :
    Opcode.ofByte b = none ↔ b ∉ [0x00#8, 0x01#8, 0x02#8, 0x03#8, 0x10#8, 0x11#8, 0x20#8, 0x21#8] := by
  unfold Opcode.ofByte
  split_ifs <;> simp [*]

/-- R69 step 2. -/
theorem fits_eq_false_iff (op : Opcode) (v : Variant) :
    op.fits v = false ↔
      (op.code ∈ [0x10#8, 0x11#8] ∧ v ≠ .charlie) ∨ (op.code ∈ [0x20#8, 0x21#8] ∧ v ≠ .ssd) := by
  cases op <;> cases v <;> decide

/-- The reserved-zero bits of an opcode, as the first bit and the number of bits (R71). -/
def Opcode.reservedBits : Opcode → Nat × Nat
  | .nop => (0, 24)
  | .cfgper => (16, 8)
  | .start => (0, 24)
  | .tie => (1, 23)
  | .setpat => (1, 15)
  | .setmask => (8, 16)
  | .setdig => (8, 8)
  | .setdp => (1, 15)

/-- A row's mask is `OP` and the reserved-zero bits. -/
theorem getLsbD_maskWord (op : Opcode) : ∀ i < 32,
    op.maskWord.getLsbD i =
      decide (24 ≤ i ∨ op.reservedBits.1 ≤ i ∧ i < op.reservedBits.1 + op.reservedBits.2) := by
  cases op <;> decide

/-- A row's match word has the `OP` field of the words of its opcode, and zeros below it. -/
theorem getLsbD_matchWord {w : Word} {op : Opcode} (hop : opField w = op.code) {i : Nat} (hi : i < 32) :
    op.matchWord.getLsbD i = (decide (24 ≤ i) && w.getLsbD i) := by
  have hmatch : op.matchWord = packWord (opField w) 0#8 0#16 := by rw [hop]; cases op <;> rfl
  simp only [hmatch, packWord, opField, BitVec.getLsbD_append, BitVec.getLsbD_extractLsb', BitVec.getLsbD_zero]
  by_cases h24 : 24 ≤ i
  · simp [h24, show ¬ i < 16 by omega, show ¬ i - 16 < 8 by omega, show i - 16 - 8 < 8 by omega,
      show 24 + (i - 16 - 8) = i by omega]
  · simp [h24]; omega

/-- R69 step 3: a word of opcode `op` matches its row when its reserved bits read 0. -/
theorem match_iff_reservedBits_eq_zero {w : Word} {op : Opcode} (hop : opField w = op.code) :
    w &&& op.maskWord = op.matchWord ↔ w.extractLsb' op.reservedBits.1 op.reservedBits.2 = 0#op.reservedBits.2 := by
  have hend : op.reservedBits.1 + op.reservedBits.2 ≤ 24 := by cases op <;> decide
  constructor
  · intro h
    ext i hi
    have hi32 : op.reservedBits.1 + i < 32 := by omega
    have hbit := congrArg (BitVec.getLsbD · (op.reservedBits.1 + i)) h
    simpa [getLsbD_maskWord op _ hi32, getLsbD_matchWord hop hi32, hi,
      show ¬ 24 ≤ op.reservedBits.1 + i by omega] using hbit
  · intro h
    ext i hi
    rw [← BitVec.getLsbD_eq_getElem, ← BitVec.getLsbD_eq_getElem, BitVec.getLsbD_and, getLsbD_maskWord op i hi,
      getLsbD_matchWord hop hi]
    by_cases hr : op.reservedBits.1 ≤ i ∧ i < op.reservedBits.1 + op.reservedBits.2
    · have hbit := congrArg (BitVec.getLsbD · (i - op.reservedBits.1)) h
      have hzero : w.getLsbD i = false := by
        simpa [hr, show i - op.reservedBits.1 < op.reservedBits.2 by omega] using hbit
      simp [hzero]
    · simp [hr, Bool.and_comm]

/-- R69 step 4, for a command that the variant has (step 2). -/
theorem badIndex_iff {op : Opcode} {v : Variant} (hfit : op.fits v = true) (i : Byte) :
    op.indexed = true ∧ v.nslots ≤ i.toNat ↔
      (op.code = 0x10#8 ∧ 6 ≤ i.toNat) ∨ (op.code ∈ [0x20#8, 0x21#8] ∧ 4 ≤ i.toNat) := by
  cases op <;> cases v <;> simp [Opcode.fits, Opcode.variant, Opcode.indexed, Opcode.code, Variant.nslots] at hfit ⊢

/-! ### The packed word as a number (R62 to R66) -/

/-- A word as the disjunction of its shifted fields (R62). -/
theorem packWord_eq_or (op idx : Byte) (data : Half) :
    packWord op idx data = packWord op 0#8 0#16 ||| idx.setWidth 32 <<< 16 ||| data.setWidth 32 := by
  have hor : ∀ (i : Byte) (d : Half),
      packWord op i d = op.setWidth 32 <<< (8 + 16) ||| i.setWidth 32 <<< 16 ||| d.setWidth 32 := fun i d => by
    rw [← BitVec.setWidth_append_append_eq_shiftLeft_setWidth_or, BitVec.setWidth_eq, packWord]
  rw [hor idx data, hor 0#8 0#16]
  simp

/-- The same with the operands as the numbers the assembler is given (R74). -/
theorem packWord_ofNat (op : Byte) {a b : Nat} (ha : a < 256) (hb : b < 65536) :
    packWord op (BitVec.ofNat 8 a) (BitVec.ofNat 16 b) =
      packWord op 0#8 0#16 ||| BitVec.ofNat 32 a <<< 16 ||| BitVec.ofNat 32 b := by
  rw [packWord_eq_or, BitVec.setWidth_ofNat_of_le_of_lt (by omega) ha, BitVec.setWidth_ofNat_of_le_of_lt (by omega) hb]

/-- A word without an index has only its `DATA` operand (R63, R64). -/
theorem packWord_zero_ofNat (op : Byte) {b : Nat} (hb : b < 65536) :
    packWord op 0#8 (BitVec.ofNat 16 b) = packWord op 0#8 0#16 ||| BitVec.ofNat 32 b := by
  simpa using packWord_ofNat op (a := 0) (by omega) hb

theorem byteData_ofNat {v : Nat} (hv : v < 256) : byteData (BitVec.ofNat 8 v) = BitVec.ofNat 16 v := by
  apply BitVec.eq_of_toNat_eq
  calc (byteData (BitVec.ofNat 8 v)).toNat = (0#8).toNat <<< 8 ||| (BitVec.ofNat 8 v).toNat := BitVec.toNat_append _ _
    _ = (BitVec.ofNat 16 v).toNat := by
      simp [Nat.mod_eq_of_lt hv, Nat.mod_eq_of_lt (show v < 65536 by omega)]

theorem flagData_asmFlag {b : Nat} (hb : b < 2) : flagData (Machine.asmFlag b) = BitVec.ofNat 16 b := by
  interval_cases b <;> rfl

end Sys2Proof

namespace Sys2Proof.Machine

/-! ### HOST's step (R69, R114) -/

/-- HOST's step on a mapped opcode: the checks of R69's steps 2 to 4, then the command. -/
theorem hostStep_of_opcode {w : Word} {op : Opcode} (hop : opField w = op.code) (s : State) :
    hostStep w s =
      if op.fits s.params.variant = false then .next (raiseFault .variantMismatch s)
      else if w &&& op.maskWord ≠ op.matchWord then .next (raiseFault .reservedBits s)
      else if op.indexed = true ∧ s.params.variant.nslots ≤ (idxField w).toNat then .next (raiseFault .badIndex s)
      else exec (op.operands w) s := by
  simp only [hostStep, decodeFor, ofByte_eq_some.2 hop]
  split_ifs <;> rfl

theorem hostStep_of_unmapped {w : Word} (hop : Opcode.ofByte (opField w) = none) (s : State) :
    hostStep w s = .next (raiseFault .illegalOpcode s) := by
  simp only [hostStep, decodeFor, hop, raise]

theorem exec_cfgper_of_not_idle {s : State} (h : s.mode ≠ .idle) (p : Half) :
    exec (.cfgper p) s = .next (raiseFault .cfgLocked s) := by
  simp only [exec, execCfgper, ifIdle, if_neg h, raise]

theorem exec_start_of_not_idle {s : State} (h : s.mode ≠ .idle) :
    exec .start s = .next (raiseFault .cfgLocked s) := by
  simp only [exec, execStart, ifIdle, if_neg h, raise]

theorem exec_start_of_period_zero {s : State} (h : s.mode = .idle) (hp : s.period = 0#16) :
    exec .start s = .next (raiseFault .configError (s.withMode .faulted)) := by
  simp only [exec, execStart, ifIdle, if_pos h, if_pos hp, raise]

/-! ### The assembler, operation by operation (R74, R75) -/

/-- Every operation but `.word` is assembled command by command. -/
theorem assemble_eq_map {a : Asm} (h : ∀ w, a ≠ .word w) :
    assemble a = (asmCommands a).map (List.map encode) := by
  cases a with
  | word w => exact absurd rfl (h w)
  | _ => simp only [assemble]; split <;> simp [*]

/-- An operation with operands: refused out of the range `q`, and in it the words are those of its commands. -/
theorem assemble_of_range {a : Asm} {p q : Prop} [Decidable p] [Decidable q] {cmds : List Instr} {words : List Word}
    (hcmds : asmCommands a = if p then some cmds else none) (ha : ∀ w, a ≠ .word w) (hpq : q ↔ p)
    (hwords : p → cmds.map encode = words) : assemble a = if q then some words else none := by
  rw [assemble_eq_map ha, hcmds]
  by_cases hp : p
  · simp [hp, hpq.2 hp, hwords hp]
  · simp [hp, mt hpq.1 hp]

/-- `SETDIG`'s word for operands in the range of their fields. -/
theorem encode_asmSetdig {s v : Nat} (hs : s < 256) (hv : v < 256) :
    encode (asmSetdig s v) = 0x20000000#32 ||| BitVec.ofNat 32 s <<< 16 ||| BitVec.ofNat 32 v := by
  rw [asmSetdig, encode, byteData_ofNat hv]
  exact packWord_ofNat 0x20#8 hs (by omega)

theorem assemble_cfgper (p : Nat) :
    assemble (.cfgper p) = if p ≤ 65535 then some [0x01000000#32 ||| BitVec.ofNat 32 p] else none := by
  refine assemble_of_range rfl nofun Nat.lt_succ_iff.symm fun hp => ?_
  exact congrArg (fun w => [w]) (packWord_zero_ofNat 0x01#8 hp)

theorem assemble_tie (b : Nat) :
    assemble (.tie b) = if b ≤ 1 then some [0x03000000#32 ||| BitVec.ofNat 32 b] else none := by
  refine assemble_of_range rfl nofun Nat.lt_succ_iff.symm fun hb => ?_
  rw [List.map_singleton, encode, flagData_asmFlag hb]
  exact congrArg (fun w => [w]) (packWord_zero_ofNat 0x03#8 (by omega))

theorem assemble_setpat (s b : Nat) :
    assemble (.setpat s b) =
      if s ≤ 5 ∧ b ≤ 1 then some [0x10000000#32 ||| BitVec.ofNat 32 s <<< 16 ||| BitVec.ofNat 32 b] else none := by
  refine assemble_of_range rfl nofun (by omega) fun ⟨hs, hb⟩ => ?_
  rw [List.map_singleton, encode, flagData_asmFlag hb]
  exact congrArg (fun w => [w]) (packWord_ofNat 0x10#8 (by omega) (by omega))

theorem assemble_setmask (m : Nat) :
    assemble (.setmask m) = if m ≤ 255 then some [0x11000000#32 ||| BitVec.ofNat 32 m] else none := by
  refine assemble_of_range rfl nofun Nat.lt_succ_iff.symm fun hm => ?_
  rw [List.map_singleton, encode, byteData_ofNat hm]
  exact congrArg (fun w => [w]) (packWord_zero_ofNat 0x11#8 (by omega))

theorem assemble_setdig (s v : Nat) :
    assemble (.setdig s v) =
      if s ≤ 3 ∧ v ≤ 255 then some [0x20000000#32 ||| BitVec.ofNat 32 s <<< 16 ||| BitVec.ofNat 32 v] else none := by
  refine assemble_of_range rfl nofun (by omega) fun ⟨hs, hv⟩ => ?_
  rw [List.map_singleton, encode_asmSetdig (by omega) hv]

theorem assemble_setdp (s b : Nat) :
    assemble (.setdp s b) =
      if s ≤ 3 ∧ b ≤ 1 then some [0x21000000#32 ||| BitVec.ofNat 32 s <<< 16 ||| BitVec.ofNat 32 b] else none := by
  refine assemble_of_range rfl nofun (by omega) fun ⟨hs, hb⟩ => ?_
  rw [List.map_singleton, encode, flagData_asmFlag hb]
  exact congrArg (fun w => [w]) (packWord_ofNat 0x21#8 (by omega) (by omega))

/-- The four digits of `SETNUM`, between the two `TIE` words (R75). -/
theorem assemble_setnum (n : Nat) :
    assemble (.setnum n) =
      if n ≤ 9999 then
        some [0x03000000#32, 0x20000000#32 ||| BitVec.ofNat 32 (n % 10),
          0x20010000#32 ||| BitVec.ofNat 32 (n / 10 % 10), 0x20020000#32 ||| BitVec.ofNat 32 (n / 100 % 10),
          0x20030000#32 ||| BitVec.ofNat 32 (n / 1000 % 10), 0x03000001#32]
      else none := by
  refine assemble_of_range rfl nofun Nat.lt_succ_iff.symm fun _ => ?_
  have hdigit : ∀ s < 4, ∀ k, encode (asmSetdig s (k % 10)) =
      0x20000000#32 ||| BitVec.ofNat 32 s <<< 16 ||| BitVec.ofNat 32 (k % 10) := fun s hs k =>
    encode_asmSetdig (by omega) (by omega)
  simp only [List.map_cons, List.map_nil, hdigit _ (show 0 < 4 by decide), hdigit _ (show 1 < 4 by decide),
    hdigit _ (show 2 < 4 by decide), hdigit _ (show 3 < 4 by decide)]
  rfl

/-- `BLANK` stores 255 in the digit (R75). -/
theorem assemble_blank (s : Nat) :
    assemble (.blank s) = if s ≤ 3 then some [0x200000FF#32 ||| BitVec.ofNat 32 s <<< 16] else none := by
  refine assemble_of_range rfl nofun Nat.lt_succ_iff.symm fun hs => ?_
  rw [List.map_singleton, encode_asmSetdig (by omega) (by decide), BitVec.or_assoc,
    BitVec.or_comm (BitVec.ofNat 32 s <<< 16), ← BitVec.or_assoc]
  rfl

/-! ### The statements of the encoding -/

/-- Settles O1: the word's opcode and reserved bits pass, and the operands read back. -/
theorem encodeThenDecode : Obligations.EncodeThenDecode := by
  intro i
  obtain ⟨hop, hmask⟩ := encode_passes_checks i
  exact decode_ok.2 ⟨i.opcode, hop, hmask, operands_encode i⟩

/-- Settles O2: `encode_of_decode`, which rests on each accepted word having 0 in its reserved bits. -/
theorem decodeThenEncode : Obligations.DecodeThenEncode := fun _ _ => encode_of_decode

/-- Settles O4: the rows are the opcodes' `match` and `mask` columns. -/
theorem opcodeMapRows : Obligations.OpcodeMapRows := by
  unfold Obligations.OpcodeMapRows
  intro rows w
  have hrows : rows = Opcode.rows.map fun op => (op.matchWord, op.maskWord) := rfl
  constructor
  · rw [← List.countP_eq_length_filter, hrows, List.countP_map]
    exact countP_match_rows_le_one w
  · simp [hrows, exists_decode_ok_iff, Opcode.mem_rows]

/-- Settles O5: the checks one after the other, each read as the rule writes it. -/
theorem decodeCheckOrder : Obligations.DecodeCheckOrder := by
  unfold Obligations.DecodeCheckOrder
  intro w s code idx data
  change Byte at code
  cases hof : Opcode.ofByte code with
  | none => rw [hostStep_of_unmapped hof, if_pos ((ofByte_eq_none_iff code).1 hof)]
  | some op =>
    have hmapped := mt (ofByte_eq_none_iff code).2 (hof ▸ nofun)
    have hop : code = op.code := ofByte_eq_some.1 hof
    rw [hostStep_of_opcode hop, if_neg hmapped, hop]
    refine ite_congr (propext (fits_eq_false_iff op _)) (fun _ => rfl) fun hfit => ?_
    rw [← fits_eq_false_iff, Bool.not_eq_false] at hfit
    refine ite_congr (propext ?reserved) (fun _ => rfl) fun _ =>
      ite_congr (propext (badIndex_iff hfit _)) (fun _ => rfl) fun _ => ?command
    case reserved =>
      rw [ne_eq, match_iff_reservedBits_eq_zero hop]
      cases op <;> simp [Opcode.code, Opcode.reservedBits, idx]
    case command =>
      cases op with
      | cfgper =>
        by_cases hm : s.mode = .idle
        · simp [Opcode.code, Opcode.operands, hm, dataField, data]
        · simp [Opcode.code, Opcode.operands, hm, exec_cfgper_of_not_idle]
      | start =>
        by_cases hm : s.mode = .idle
        · by_cases hp : s.period = 0#16
          · simp [Opcode.code, Opcode.operands, hm, hp, exec_start_of_period_zero]
          · simp [Opcode.code, Opcode.operands, hm, hp]
        · simp [Opcode.code, Opcode.operands, hm, exec_start_of_not_idle]
      | nop => rfl
      | tie => rfl
      | setpat => rfl
      | setmask => rfl
      | setdig => rfl
      | setdp => rfl

/-- Settles O60: operation by operation; those without operands by evaluation. -/
theorem assemblerTable : Obligations.AssemblerTable := fun a b =>
  ⟨rfl, rfl, assemble_cfgper a, assemble_tie a, assemble_setpat a b, assemble_setmask a, assemble_setdig a b,
    assemble_setdp a b, rfl, rfl, rfl, rfl, assemble_setnum a, assemble_blank a⟩

end Sys2Proof.Machine

/-!
PROOFS. The statements of 40_tick_engine.md: when `TICK` is enabled, what it emits and leaves unchanged in either
variant, and the order in which the ticks of a run visit the slots. First the laws they cite, in the order of the
definitions they speak of.
-/
namespace Sys2Proof.Machine

/-! ### What a slot's drive is a function of (R79, R80) -/

/-- The DRIVE vector of slot `c` under parameters `p`, with DisplayState `shown`: what `TICK` emits after BLANK
(`tick_eq_next_iff`). -/
def slotDrive (p : Params) (shown : Byte × Vector Byte 4 × Vector Bool 4) (c : BitVec 3) : Option OutVec :=
  match p.variant with
  | .charlie => do
    let e ← memRead p (romCharlie + c.setWidth 8)
    let ps ← charlieDrive shown.1 c e
    return .charlie ps
  | .ssd => do
    let d ← shown.2.1[c.toNat]?
    let dp ← shown.2.2[c.toNat]?
    let g ← segmentsFor p d
    return .ssd (withDp g dp) (1#4 <<< c.toNat)

theorem slotDrive_charlie {p : Params} {c : BitVec 3} (hv : p.variant = .charlie) (hc : c.toNat < 6)
    (shown : Byte × Vector Byte 4 × Vector Bool 4) :
    slotDrive p shown c = (charlieDrive shown.1 c p.charlieMap[c.toNat]).map .charlie := by
  cases hd : charlieDrive shown.1 c p.charlieMap[c.toNat] <;> simp [slotDrive, hv, memRead_romCharlie hv hc, hd]

theorem slotDrive_ssd {s : State} {d g : Byte} {dp : Bool} (hv : s.params.variant = .ssd)
    (hd : s.ssdVal[s.cursor.toNat]? = some d) (hp : s.ssdDot[s.cursor.toNat]? = some dp)
    (hg : segmentsFor s.params d = some g) :
    slotDrive s.params (display s) s.cursor = some (.ssd (withDp g dp) (1#4 <<< s.cursor.toNat)) := by
  simp [slotDrive, hv, display, hd, hp, hg]

/-- `TICK` in either variant: BLANK, the slot's drive, and the advance (R78). -/
theorem tick_eq_next_iff (s t : State) :
    tick s = .next t ↔ ∃ drive, slotDrive s.params (display s) s.cursor = some drive ∧
      t = finishTick (.neutral s.params.variant) drive s := by
  constructor
  · intro h
    rcases tick_next h with ⟨hv, e, ps, he, hps, rfl⟩ | ⟨hv, d, dp, g, hd, hp, hg, rfl⟩
    · exact ⟨.charlie ps, by simp [slotDrive, hv, display, he, hps], by rw [hv]; rfl⟩
    · exact ⟨_, slotDrive_ssd hv hd hp hg, by rw [hv]; rfl⟩
  · rintro ⟨drive, hdrive, rfl⟩
    cases hv : s.params.variant with
    | charlie =>
      simp only [slotDrive, hv, Option.bind_eq_bind, Option.bind_eq_some_iff] at hdrive
      obtain ⟨e, he, ps, hps, hret⟩ := hdrive
      cases hret
      simp only [display] at hps
      simp only [tick, hv, tickCharlie, he, hps, OutVec.neutral]
    | ssd =>
      simp only [slotDrive, hv, Option.bind_eq_bind, Option.bind_eq_some_iff] at hdrive
      obtain ⟨d, hd, dp, hp, g, hg, hret⟩ := hdrive
      cases hret
      simp only [display] at hd hp
      simp only [tick, hv, tickSsd, hd, hp, hg, OutVec.neutral]

/-- The writes of a `TICK` as one record (R78). -/
theorem finishTick_eq (blank drive : OutVec) (s : State) :
    finishTick blank drive s =
      { s with
        pins := pinsAfter (pinsAfter s.pins blank) drive
        seg := segAfter (segAfter s.seg blank) drive
        dig := digAfter (digAfter s.dig blank) drive
        trace := s.trace ++ [blank, drive]
        cursor := nextCursor s.params.variant s.cursor
        pend := false } := by
  rw [List.append_cons]
  rfl

/-- The advance of the CHARLIE cursor, with the wrap after slot 5 (R79). -/
theorem nextCursor_charlie : ∀ c : BitVec 3, c.toNat < 6 →
    nextCursor .charlie c = if c = 5#3 then 0#3 else c + 1#3 := by decide

/-- The advance of the SSD cursor, with the wrap after position 3 (R80). -/
theorem nextCursor_ssd : ∀ c : BitVec 3, c.toNat < 4 →
    nextCursor .ssd c = if c = 3#3 then 0#3 else c + 1#3 := by decide

/-- A CHARLIE slot that is on is driven by its entry (R79). -/
theorem charlieDrive_of_on {v : Byte} {c : BitVec 3} (e : Byte) (hany : v.extractLsb' 0 6 ≠ 0#6)
    (hon : v.getLsbD c.toNat = true) : charlieDrive v c e = chDrive e :=
  if_pos ⟨hany, hon⟩

/-- A CHARLIE slot that is off floats every pin, and so do all slots when none is on (R79, R85). -/
theorem charlieDrive_of_off {v : Byte} {c : BitVec 3} (e : Byte)
    (hoff : v.extractLsb' 0 6 = 0#6 ∨ v.getLsbD c.toNat = false) : charlieDrive v c e = some Pins.allZ := by
  refine if_neg fun ⟨hany, hon⟩ => ?_
  rcases hoff with hnone | hoff
  · exact hany hnone
  · simp [hoff] at hon

/-- The glyph of a digit 0 to 9 is its ROM entry (R96). -/
theorem segmentsFor_of_le {p : Params} {d : Byte} (hv : p.variant = .ssd) (hd : d.toNat ≤ 9) :
    segmentsFor p d = p.glyphRom[d.toNat]? := by
  have haddr : romGlyph + d = d := BitVec.zero_add d
  rw [segmentsFor, if_pos hd, haddr, memRead_ssd hv, if_pos (by omega)]

/-- Every other value is blank (R96). -/
theorem segmentsFor_of_gt (p : Params) {d : Byte} (hd : 10 ≤ d.toNat) : segmentsFor p d = some 0x00#8 :=
  if_neg (by omega)

/-! ### The turns that tick, and what no step changes -/

theorem takesTick_eq (s : State) : takesTick s = (engineTurn s && tickEnabled s) := rfl

/-- The parameters are fixed: no step changes them (R39). -/
theorem params_of_step {s t : State} (hb : s.booted = true) (h : step s = .next t) : t.params = s.params := by
  obtain ⟨a, n, -, -, heff⟩ := step_effect hb h
  rcases heff.host_or_frame with ⟨w, c, -, -, rfl⟩ | ⟨i, -, he⟩ | hframe
  · rfl
  · exact (congrArg State.params he.frame :)
  · exact (congrArg State.params hframe :)

/-- R77: an enabled `TICK` stays enabled over a step that neither takes it nor delivers `TIE #0`: only those two clear
`PEND` and `TIE` (R31), and RUNNING is never left (R23). -/
theorem tickEnabled_of_step {s t : State} (hb : s.booted = true) (h : step s = .next t)
    (hen : tickEnabled s = true) (hno : takesTick s = false) (htie0 : delivers 0x03000000#32 s = false) :
    tickEnabled t = true := by
  obtain ⟨hmode, hpend, htie⟩ := (tickEnabled_iff s).1 hen
  obtain ⟨-, hpendClear, -, -, -, -, -, htieWrite⟩ := flagTable s t hb h
  refine (tickEnabled_iff t).2 ⟨?_, ?_, ?_⟩
  · rcases modeTransitions s t hb h with hkept | ⟨hidle, -⟩
    · exact hkept.trans hmode
    · simp [hmode] at hidle
  · by_contra hcleared
    simp [hpendClear hpend (by simpa using hcleared)] at hno
  · by_contra hcleared
    have hdelivers := htieWrite (by simp [hcleared, htie])
    simp [hcleared, htie0] at hdelivers

/-- The step of a ticking turn is `TICK`, in the state with the turn taken. -/
theorem tick_of_takesTick {s t : State} (hb : s.booted = true) (h : step s = .next t) (htick : takesTick s = true) :
    ∃ a n, tick ((s.withAgenda a).withDraws n) = .next t := by
  obtain ⟨-, hturn, hen⟩ := (takesTick_iff s).1 htick
  obtain ⟨-, ⟨-, -, hperf⟩ | ⟨hb', -⟩⟩ := step_next h
  · obtain ⟨a, n, hs⟩ := nextTurn_snd s
    rw [hturn, hs] at hperf
    have hen' : tickEnabled ((s.withAgenda a).withDraws n) = true := hen
    exact ⟨a, n, by simpa only [perform, engineStep, hen', if_true] using hperf⟩
  · simp [hb] at hb'

/-- R77 along a run: the `TICK` stays enabled until it is taken, and the first turn of ENGINE takes it. -/
theorem tick_taken_of_run {k : Nat} {s t : State} (hinv : Invariant s) (hen : tickEnabled s = true)
    (hrun : runsTo k s t) (hno : holdsAlong (fun u => delivers 0x03000000#32 u = false) k s)
    (hturn : 1 ≤ countAlong engineTurn k s) : 1 ≤ countAlong takesTick k s := by
  induction k generalizing s with
  | zero => exact absurd hturn (by simp [countAlong])
  | succ k ih =>
    obtain ⟨u, hstep, hrest⟩ := runsTo_succ.1 hrun
    obtain ⟨hfirst, hno⟩ := (holdsAlong_succ hstep).1 hno
    rw [countAlong_succ hstep] at hturn ⊢
    cases htick : takesTick s with
    | true => simp
    | false =>
      have hother : engineTurn s = false := by simpa [takesTick_eq, hen] using htick
      have hlater := ih (invariantKept s u hinv hstep) (tickEnabled_of_step hinv.booted hstep hen htick hfirst)
        hrest hno (by simpa [hother] using hturn)
      simpa using hlater

/-! ### The slots of a run, and what they emit (R82, R90, R91) -/

/-- The invariant holds at the end of every run from a state that has it. -/
theorem invariant_of_run {k : Nat} {s t : State} (hinv : Invariant s) (hrun : runsTo k s t) : Invariant t := by
  induction k generalizing s with
  | zero =>
    obtain rfl := runsTo_zero.1 hrun
    exact hinv
  | succ k ih =>
    obtain ⟨u, hstep, hrest⟩ := runsTo_succ.1 hrun
    exact ih (invariantKept s u hinv hstep) hrest

theorem slotsAlong_succ {k : Nat} {s u : State} (h : step s = .next u) :
    slotsAlong (k + 1) s = (if takesTick s then [s.cursor.toNat] else []) ++ slotsAlong k u := by
  simp only [slotsAlong, h]

/-- What a `TICK` of slot `c` appends to the trace: BLANK and DRIVE. -/
def slotOutputs (p : Params) (shown : Byte × Vector Byte 4 × Vector Bool 4) (c : Nat) : List OutVec :=
  (slotDrive p shown (BitVec.ofNat 3 c)).toList.flatMap fun drive => [.neutral p.variant, drive]

theorem trace_of_takesTick {s t : State} (hb : s.booted = true) (h : step s = .next t) (htick : takesTick s = true) :
    t.trace = s.trace ++ slotOutputs s.params (display s) s.cursor.toNat := by
  obtain ⟨a, n, ht⟩ := tick_of_takesTick hb h htick
  obtain ⟨drive, hdrive, rfl⟩ := (tick_eq_next_iff _ t).1 ht
  have hslot : slotDrive s.params (display s) s.cursor = some drive := hdrive
  rw [finishTick_eq, slotOutputs, BitVec.ofNat_toNat, BitVec.setWidth_eq, hslot]
  rfl

/-- The slots a run drives, and the cursor it ends with, counted from the cursor it starts with. -/
theorem slots_of_run {k : Nat} {s t : State} (hinv : Invariant s) (hrun : runsTo k s t) :
    slotsAlong k s =
        (List.range (countAlong takesTick k s)).map (fun j => (s.cursor.toNat + j) % s.params.variant.nslots) ∧
      t.cursor.toNat = (s.cursor.toNat + countAlong takesTick k s) % s.params.variant.nslots := by
  induction k generalizing s with
  | zero =>
    obtain rfl := runsTo_zero.1 hrun
    exact ⟨rfl, (Nat.mod_eq_of_lt hinv.cursorRange).symm⟩
  | succ k ih =>
    obtain ⟨u, hstep, hrest⟩ := runsTo_succ.1 hrun
    obtain ⟨hslots, hcursor⟩ := ih (invariantKept s u hinv hstep) hrest
    obtain ⟨hkept, hnext⟩ := cursorOwnedByEngine s u hinv.booted hstep
    rw [params_of_step hinv.booted hstep] at hslots hcursor
    rw [slotsAlong_succ hstep, countAlong_succ hstep]
    cases htick : takesTick s with
    | false =>
      rw [hkept htick] at hslots hcursor
      simpa using ⟨hslots, hcursor⟩
    | true =>
      rw [hnext htick, Nat.mod_add_mod] at hcursor
      simp only [hnext htick, Nat.mod_add_mod] at hslots
      refine ⟨?_, by simpa [Nat.add_assoc] using hcursor⟩
      rw [hslots, if_pos rfl, if_pos rfl, Nat.add_comm 1, List.range_succ_eq_map]
      simp [Nat.mod_eq_of_lt hinv.cursorRange, Nat.add_assoc, Nat.add_comm 1]

/-- With DisplayState `shown` throughout, a run emits the outputs of the slots it drives, in order, and nothing else. -/
theorem trace_of_run {k : Nat} {s t : State} {shown : Byte × Vector Byte 4 × Vector Bool 4} (hinv : Invariant s)
    (hrun : runsTo k s t) (hshown : holdsAlong (fun u => display u = shown) k s) :
    t.params = s.params ∧ t.trace = s.trace ++ (slotsAlong k s).flatMap (slotOutputs s.params shown) := by
  induction k generalizing s with
  | zero =>
    obtain rfl := runsTo_zero.1 hrun
    exact ⟨rfl, by simp [slotsAlong]⟩
  | succ k ih =>
    obtain ⟨u, hstep, hrest⟩ := runsTo_succ.1 hrun
    obtain ⟨rfl, hshown⟩ := (holdsAlong_succ hstep).1 hshown
    obtain ⟨hparams, htrace⟩ := ih (invariantKept s u hinv hstep) hrest hshown
    rw [params_of_step hinv.booted hstep] at hparams htrace
    refine ⟨hparams, ?_⟩
    rw [htrace, slotsAlong_succ hstep]
    cases htick : takesTick s with
    | false => simp [(outputs_of_not_takesTick hinv.booted hstep htick).1]
    | true => simp [trace_of_takesTick hinv.booted hstep htick]

/-! ### The statements of the tick engine -/

/-- Settles O54: the slots and the cursor by `slots_of_run`; `NSLOTS` ticks bring the cursor round. -/
theorem roundRobin : Obligations.RoundRobin := by
  intro k s t hinv hrun
  obtain ⟨hslots, hcursor⟩ := slots_of_run hinv hrun
  refine ⟨hslots, hcursor, fun hcycle => BitVec.eq_of_toNat_eq ?_⟩
  rw [hcursor, hcycle, Nat.add_mod_right, Nat.mod_eq_of_lt hinv.cursorRange]

/-- Settles O55: both cycles drive the same slots, so they emit the same outputs. -/
theorem cyclesRepeat : Obligations.CyclesRepeat := by
  intro k l s m t hinv hfirst hsecond hshown hshown' hcycle hcycle'
  obtain ⟨hslots, -, hback⟩ := roundRobin k s m hinv hfirst
  obtain ⟨hparams, htrace⟩ := trace_of_run hinv hfirst hshown
  have hinv' : Invariant m := invariant_of_run hinv hfirst
  obtain ⟨hslots', -, -⟩ := roundRobin l m t hinv' hsecond
  obtain ⟨-, htrace'⟩ := trace_of_run hinv' hsecond hshown'
  have hsame : slotsAlong l m = slotsAlong k s := by
    rw [hslots, hslots', hcycle, hcycle', hback hcycle, hparams]
  rw [htrace', List.drop_left, hsame, hparams, htrace, List.drop_left]

/-- Settles O58: an enabled `TICK` waits for ENGINE's turn. -/
theorem enabledTickIsTaken : Obligations.EnabledTickIsTaken :=
  fun _ _ _ hinv hen hrun hno hturn => tick_taken_of_run hinv hen hrun hno hturn

/-- Settles O29: ENGINE's turn by whether `TICK` is enabled, and the step of `tickEnabled_of_step`. -/
theorem tickEnabling : Obligations.TickEnabling := by
  refine ⟨fun s hno => ?_, fun s hmode hpend htie => ?_, fun s t hb h => tickEnabled_of_step hb h⟩
  · exact if_neg fun hen => hno ((tickEnabled_iff s).1 hen)
  · exact if_pos ((tickEnabled_iff s).2 ⟨hmode, hpend, htie⟩)

/-- Settles O30: the entry is well-formed, so it drives its pins, or the slot is off and all pins float. -/
theorem tickCharlieRule : Obligations.TickCharlieRule := by
  intro s e hv hmap he
  obtain ⟨hc, rfl⟩ := Vector.getElem?_eq_some_iff.1 he
  have hentry := ((charlieMapOk_iff _).1 hmap).1 ⟨s.cursor.toNat, hc⟩
  obtain ⟨ps, hps⟩ := exists_charlieDrive_eq_some s.charlieVal s.cursor hentry
  refine ⟨ps, ?_, fun hany hon => ?_, fun hoff => ?_⟩
  · have hdrive : slotDrive s.params (display s) s.cursor = some (.charlie ps) := by
      rw [slotDrive_charlie hv hc]
      exact congrArg (Option.map OutVec.charlie) hps
    rw [(tick_eq_next_iff s _).2 ⟨_, hdrive, rfl⟩, finishTick_eq, hv, nextCursor_charlie _ hc]
    rfl
  · rw [charlieDrive_of_on _ hany hon] at hps
    obtain ⟨ha, hb, hf, -⟩ := chDrive_pins hentry hps
    exact ⟨ha, hb, hf⟩
  · rw [charlieDrive_of_off _ hoff] at hps
    cases hps
    rfl

/-- Settles O31: the glyph of the digit on either side of 9. -/
theorem tickSsdRule : Obligations.TickSsdRule := by
  intro s d g dp hv hd hp hglyph hblank
  obtain ⟨hc, -⟩ := Vector.getElem?_eq_some_iff.1 hd
  have hg : segmentsFor s.params d = some g := by
    rcases Nat.lt_or_ge d.toNat 10 with hlow | hhigh
    · rw [segmentsFor_of_le hv (by omega), hglyph (by omega)]
    · rw [segmentsFor_of_gt _ hhigh, hblank hhigh]
  rw [(tick_eq_next_iff s _).2 ⟨_, slotDrive_ssd hv hd hp hg, rfl⟩, finishTick_eq, hv, nextCursor_ssd _ hc]
  rfl

/-- Settles O32: CHARLIE floats the pins of every slot; an SSD digit from 10 on without its point lights nothing. -/
theorem allOff : Obligations.AllOff := by
  refine ⟨fun s hv hc hnone => ?_, fun s hv hc hblank => ?_⟩
  · have hdrive : slotDrive s.params (display s) s.cursor = some (.charlie Pins.allZ) := by
      rw [slotDrive_charlie hv hc]
      exact congrArg (Option.map OutVec.charlie) (charlieDrive_of_off _ (.inl hnone))
    refine ⟨_, (tick_eq_next_iff s _).2 ⟨_, hdrive, rfl⟩, ?_⟩
    rw [finishTick_eq, hv]
    exact ⟨rfl, rfl, toNat_nextCursor .charlie s.cursor, rfl⟩
  · obtain ⟨hdigit, hpoint⟩ := hblank ⟨s.cursor.toNat, hc⟩
    have hdrive := slotDrive_ssd hv (Vector.getElem?_eq_getElem hc)
      ((Vector.getElem?_eq_getElem hc).trans (congrArg some hpoint)) (segmentsFor_of_gt s.params hdigit)
    refine ⟨_, (tick_eq_next_iff s _).2 ⟨_, hdrive, rfl⟩, ?_⟩
    rw [finishTick_eq, hv]
    exact ⟨rfl, rfl, rfl⟩

/-- Settles O34: `finishTick` writes the cursor, `PEND`, the outputs and the trace alone. -/
theorem tickFrame : Obligations.TickFrame := by
  intro s t h
  obtain ⟨drive, -, rfl⟩ := (tick_eq_next_iff s t).1 h
  exact ⟨rfl, rfl, rfl, rfl, rfl, rfl, rfl, rfl, rfl, rfl, rfl, rfl, rfl, rfl⟩

/-- Settles O33: `TICK` completes, and its frame holds `FAULT` and `CAUSE`. -/
theorem tickNeverFaults : Obligations.TickNeverFaults := by
  intro s hp hc
  obtain ⟨t, ht⟩ := tick_completes hp hc
  obtain ⟨-, -, -, -, -, -, -, -, hfault, hcause, -⟩ := tickFrame s t ht
  exact ⟨t, ht, hfault, hcause⟩

end Sys2Proof.Machine

/-!
PROOFS. The statements of 41_pattern_rom_glyph.md: the glyph decoder, what a slot of a well-formed map drives, and the
default tables. First the laws they cite: a drive is read back as the map entry's high and low pins.
-/
namespace Sys2Proof.Machine

/-! ### The high and the low pin of a drive (R100, R101) -/

/-- Two pins at one value count as two: the pair of pins by cases. -/
theorem two_le_pinCount {ps : Pins} {v : Pin} {i j : BitVec 2} (hij : i ≠ j) (hi : pinAt ps i = some v)
    (hj : pinAt ps j = some v) : 2 ≤ pinCount v ps := by
  unfold pinAt at hi hj
  split_ifs at hi hj <;> simp_all [pinCount, List.count_cons]

/-- A value that one pin alone holds tells which pin it is. -/
theorem pin_eq_of_pinCount_eq_one {ps : Pins} {v : Pin} {i j : BitVec 2} (hcount : pinCount v ps = 1)
    (hi : pinAt ps i = some v) (hj : pinAt ps j = some v) : i = j := by
  by_contra hij
  have htwo := two_le_pinCount hij hi hj
  omega

/-- An entry drives its high pin H and its low pin L, whichever of `pa` and `pb` they are. -/
theorem chDrive_high_low {e : Byte} {ps : Pins} (he : mapEntryOk e = true) (h : chDrive e = some ps) :
    pinAt ps (mapHigh e) = some .H ∧ pinAt ps (mapLow e) = some .L := by
  obtain ⟨ha, hb, -⟩ := chDrive_pins he h
  unfold mapHigh mapLow
  cases hpol : mapPol e with
  | false => exact ⟨by simpa [hpol, levelA] using ha, by simpa [hpol, levelB] using hb⟩
  | true => exact ⟨by simpa [hpol, levelB] using hb, by simpa [hpol, levelA] using ha⟩

/-- Two well-formed entries that drive the pins alike have the same high and low pins. -/
theorem mapHigh_mapLow_eq_of_chDrive_eq {e e' : Byte} (he : mapEntryOk e = true) (he' : mapEntryOk e' = true)
    (h : chDrive e = chDrive e') : mapHigh e = mapHigh e' ∧ mapLow e = mapLow e' := by
  obtain ⟨ps, hps⟩ := exists_chDrive_eq_some he
  have hps' : chDrive e' = some ps := h ▸ hps
  obtain ⟨-, -, -, hH, hL, -⟩ := chDrive_pins he hps
  obtain ⟨hhigh, hlow⟩ := chDrive_high_low he hps
  obtain ⟨hhigh', hlow'⟩ := chDrive_high_low he' hps'
  exact ⟨pin_eq_of_pinCount_eq_one hH hhigh hhigh', pin_eq_of_pinCount_eq_one hL hlow hlow'⟩

/-! ### The statements of the pattern ROM and the glyph decoder -/

/-- Settles O36: the ROM entry of a digit 0 to 9, and blank from 10 on. -/
theorem glyphDecoder : Obligations.GlyphDecoder := by
  intro p d hv
  refine ⟨fun k hk => ?_, segmentsFor_of_gt p⟩
  rw [segmentsFor_of_le hv (by omega), hk]
  exact Vector.getElem?_eq_getElem k.isLt

/-- Settles O38: every entry of the map is well-formed, so it drives its pins as `chDrive_pins` says. -/
theorem driveShape : Obligations.DriveShape := by
  intro m hm i
  have he := ((charlieMapOk_iff m).1 hm).1 i
  obtain ⟨ps, hps⟩ := exists_chDrive_eq_some he
  exact ⟨ps, hps, chDrive_pins he hps⟩

/-- Settles O39: slots that drive the pins alike have the same high and low pins, which R100 rules out. -/
theorem drivesDistinct : Obligations.DrivesDistinct := by
  intro m hm i j hij hdrive
  obtain ⟨hentry, hdistinct⟩ := (charlieMapOk_iff m).1 hm
  obtain ⟨hhigh, hlow⟩ := mapHigh_mapLow_eq_of_chDrive_eq (hentry i) (hentry j) hdrive
  exact hij (hdistinct i j hhigh hlow)

/-- Settles O37: the tables hold literals, and are read back by evaluation. -/
theorem defaultTables : Obligations.DefaultTables :=
  ⟨rfl, rfl, by decide, by decide⟩

end Sys2Proof.Machine

/-!
PROOFS. The statements of 42_timer.md: `TCLK` and the event it raises, the count of events and ticks along a run, and
what stands before `START`. First the laws they cite, in the order of the definitions they speak of.
-/
namespace Sys2Proof.Machine

/-! ### `TCLK` by the position in the period (R105, R106) -/

theorem tclk_of_not_running {s : State} (h : s.mode ≠ .running) : tclk s = .next s :=
  if_neg h

theorem tclk_of_last {s : State} (hm : s.mode = .running) (hlast : s.tcnt.toNat + 1 = s.period.toNat) :
    tclk s = .next (timerEvent (s.withTcnt 0#16)) := by
  have hlt : s.tcnt < s.period := by bv_omega
  have heq : s.tcnt = s.period - 1#16 := by bv_omega
  rw [tclk, if_pos hm, if_pos hlt, if_pos heq]

theorem tclk_of_before_last {s : State} (hm : s.mode = .running) (hbefore : s.tcnt.toNat + 1 < s.period.toNat) :
    tclk s = .next (s.withTcnt (s.tcnt + 1#16)) := by
  have hlt : s.tcnt < s.period := by bv_omega
  have hne : s.tcnt ≠ s.period - 1#16 := by bv_omega
  rw [tclk, if_pos hm, if_pos hlt, if_neg hne]

/-- Before the last count the counter does not wrap. -/
theorem toNat_add_one_of_lt {n p : Half} (h : n.toNat + 1 < p.toNat) : (n + 1#16).toNat = n.toNat + 1 := by bv_omega

/-! ### What a step does to the timer's registers -/

theorem takesTclk_iff (s : State) : takesTclk s = true ↔ steps s = true ∧ (nextTurn s).1 = .timer := by
  simp [takesTclk]

/-- An event is raised by a `TCLK`, so it falls in no turn of ENGINE. -/
theorem takesTick_of_raisesEvent {s : State} (h : raisesEvent s = true) : takesTick s = false := by
  obtain ⟨-, hturn, -, -⟩ := (raisesEvent_iff s).1 h
  simp [takesTick, hturn]

/-- The step of a TIMER's turn is `TCLK`, in the state with the turn taken. -/
theorem tclk_of_takesTclk {s t : State} (hb : s.booted = true) (h : step s = .next t) (htclk : takesTclk s = true) :
    ∃ a n, tclk ((s.withAgenda a).withDraws n) = .next t := by
  obtain ⟨-, hturn⟩ := (takesTclk_iff s).1 htclk
  obtain ⟨-, ⟨-, -, hperf⟩ | ⟨hb', -⟩⟩ := step_next h
  · obtain ⟨a, n, hs⟩ := nextTurn_snd s
    rw [hturn, hs] at hperf
    exact ⟨a, n, hperf⟩
  · simp [hb] at hb'

/-- `TCNT` is TIMER's, but for the `START` that leaves IDLE (R26). -/
theorem AgentEffect.tcnt_write {s t : State} {e : AgentStep} (h : AgentEffect s e t) :
    t.tcnt = s.tcnt ∨ e = .timer ∨ s.mode = .idle := by
  cases e with
  | host w =>
    rcases h.host_cases with ⟨c, -, rfl⟩ | ⟨i, -, he⟩
    · exact .inl rfl
    · rcases he.mode_write with ⟨-, hkept⟩ | ⟨-, hidle, -⟩
      · exact .inl hkept
      · exact .inr (.inr hidle)
  | timer => exact .inr (.inl rfl)
  | engine => exact .inl (congrArg State.tcnt h.engine_frame :)
  | reset => exact .inl (congrArg State.tcnt h.reset_eq)

theorem tcnt_of_not_takesTclk {s t : State} (hb : s.booted = true) (h : step s = .next t) (hm : s.mode = .running)
    (hno : takesTclk s = false) : t.tcnt = s.tcnt := by
  obtain ⟨a, n, -, hsteps, heff⟩ := step_effect hb h
  rcases heff.tcnt_write with hkept | hturn | hidle
  · exact hkept
  · rw [(takesTclk_iff s).2 ⟨hsteps, hturn⟩] at hno
    cases hno
  · exact nomatch hm.symm.trans hidle

/-- The step that raises an event restarts the count, and requests a tick or records the overrun (R105, R106). -/
theorem registers_of_raisesEvent {s t : State} (hb : s.booted = true) (h : step s = .next t)
    (hev : raisesEvent s = true) : t.tcnt = 0#16 ∧ t.pend = true ∧ t.ovr = (s.ovr || s.pend) := by
  obtain ⟨hsteps, hturn, hm, hlast⟩ := (raisesEvent_iff s).1 hev
  obtain ⟨a, n, ht⟩ := tclk_of_takesTclk hb h ((takesTclk_iff s).2 ⟨hsteps, hturn⟩)
  rw [tclk_of_last (s := (s.withAgenda a).withDraws n) hm hlast, timerEvent_eq] at ht
  cases ht
  exact ⟨rfl, rfl, rfl⟩

/-- A `TCLK` that raises no event counts one up. -/
theorem tcnt_of_takesTclk {s t : State} (hinv : Invariant s) (hm : s.mode = .running) (h : step s = .next t)
    (htclk : takesTclk s = true) (hno : raisesEvent s = false) : t.tcnt.toNat = s.tcnt.toNat + 1 := by
  obtain ⟨-, hlt⟩ := hinv.counting hm
  obtain ⟨hsteps, hturn⟩ := (takesTclk_iff s).1 htclk
  have hne : s.tcnt.toNat + 1 ≠ s.period.toNat := fun hlast => by
    simp [(raisesEvent_iff s).2 ⟨hsteps, hturn, hm, hlast⟩] at hno
  have hbefore : s.tcnt.toNat + 1 < s.period.toNat := by omega
  obtain ⟨a, n, ht⟩ := tclk_of_takesTclk hinv.booted h htclk
  rw [tclk_of_before_last (s := (s.withAgenda a).withDraws n) hm hbefore] at ht
  cases ht
  exact toNat_add_one_of_lt hbefore

/-- `TICK` takes the pending request (R84). -/
theorem pend_of_takesTick {s t : State} (hb : s.booted = true) (h : step s = .next t) (htick : takesTick s = true) :
    t.pend = false := by
  obtain ⟨a, n, ht⟩ := tick_of_takesTick hb h htick
  obtain ⟨drive, -, rfl⟩ := (tick_eq_next_iff _ t).1 ht
  rfl

/-- A request, pending or just raised, is kept by every step but a `TICK`. -/
theorem pend_of_not_takesTick {s t : State} (hb : s.booted = true) (h : step s = .next t) (hno : takesTick s = false)
    (hreq : s.pend = true ∨ raisesEvent s = true) : t.pend = true := by
  rcases hreq with hpend | hev
  · obtain ⟨-, hpendClear, -⟩ := flagTable s t hb h
    by_contra ht
    simp [hpendClear hpend (by simpa using ht)] at hno
  · exact (registers_of_raisesEvent hb h hev).2.1

/-! ### What RUNNING keeps -/

/-- RUNNING is never left (R23), and its `PERIOD` is locked (R25). -/
theorem running_of_step {s t : State} (hb : s.booted = true) (h : step s = .next t) (hm : s.mode = .running) :
    t.mode = .running ∧ t.period = s.period := by
  refine ⟨?_, (periodLocked s t hb h).1 (by simp [hm])⟩
  rcases modeTransitions s t hb h with hkept | ⟨hidle, -⟩
  · exact hkept.trans hm
  · exact nomatch hm.symm.trans hidle

/-- Only `TIE #0` clears `TIE` (R31). -/
theorem tie_of_step {s t : State} (hb : s.booted = true) (h : step s = .next t) (htie : s.tie = true)
    (hno : delivers 0x03000000#32 s = false) : t.tie = true := by
  obtain ⟨-, -, -, -, -, -, -, htieWrite⟩ := flagTable s t hb h
  by_contra ht
  have hdelivers := htieWrite (by simp [ht, htie])
  simp [ht, hno] at hdelivers

/-- An overrun stays recorded along every run (R28). -/
theorem ovr_of_run {k : Nat} {s t : State} (hinv : Invariant s) (hrun : runsTo k s t) (hovr : s.ovr = true) :
    t.ovr = true := by
  induction k generalizing s with
  | zero =>
    obtain rfl := runsTo_zero.1 hrun
    exact hovr
  | succ k ih =>
    obtain ⟨u, hstep, hrest⟩ := runsTo_succ.1 hrun
    obtain ⟨-, -, hkept, -⟩ := flagTable s u hinv.booted hstep
    exact ih (invariantKept s u hinv hstep) hrest (hkept hovr)

/-! ### Events, TCLKs and ticks counted (R107, R113) -/

/-- One step in RUNNING: an event accounts for `PERIOD` counts, any other TCLK for one. -/
theorem count_balance_of_step {s t : State} (hinv : Invariant s) (hm : s.mode = .running) (h : step s = .next t) :
    s.tcnt.toNat + (if takesTclk s then 1 else 0) =
      t.tcnt.toNat + s.period.toNat * (if raisesEvent s then 1 else 0) := by
  cases htclk : takesTclk s with
  | false =>
    have hnoevent : raisesEvent s = false := by simp [raisesEvent, htclk]
    simp [hnoevent, tcnt_of_not_takesTclk hinv.booted h hm htclk]
  | true =>
    cases hev : raisesEvent s with
    | false => simp [tcnt_of_takesTclk hinv hm h htclk hev]
    | true =>
      obtain ⟨-, -, -, hlast⟩ := (raisesEvent_iff s).1 hev
      obtain ⟨hzero, -⟩ := registers_of_raisesEvent hinv.booted h hev
      simp [hzero, hlast]

theorem count_balance_of_run {k : Nat} {s t : State} (hinv : Invariant s) (hm : s.mode = .running)
    (hrun : runsTo k s t) :
    t.mode = .running ∧ t.period = s.period ∧
      s.tcnt.toNat + countAlong takesTclk k s = t.tcnt.toNat + s.period.toNat * countAlong raisesEvent k s := by
  induction k generalizing s with
  | zero =>
    obtain rfl := runsTo_zero.1 hrun
    exact ⟨hm, rfl, by simp [countAlong]⟩
  | succ k ih =>
    obtain ⟨u, hstep, hrest⟩ := runsTo_succ.1 hrun
    obtain ⟨hmode, hperiod⟩ := running_of_step hinv.booted hstep hm
    obtain ⟨hmode', hperiod', hlater⟩ := ih (invariantKept s u hinv hstep) hmode hrest
    have hfirst := count_balance_of_step hinv hm hstep
    rw [hperiod] at hperiod' hlater
    refine ⟨hmode', hperiod', ?_⟩
    rw [countAlong_succ hstep, countAlong_succ hstep, Nat.mul_add]
    omega

/-- One step that leaves no overrun recorded: a tick takes a request, and an event makes one that was not there. -/
theorem pend_balance_of_step {s t : State} (hb : s.booted = true) (h : step s = .next t) (hovr : t.ovr = false) :
    (if takesTick s then 1 else 0) + t.pend.toNat = (if raisesEvent s then 1 else 0) + s.pend.toNat := by
  cases hev : raisesEvent s with
  | true =>
    obtain ⟨-, hset, hovr'⟩ := registers_of_raisesEvent hb h hev
    rw [hovr, eq_comm, Bool.or_eq_false_iff] at hovr'
    simp [takesTick_of_raisesEvent hev, hset, hovr'.2]
  | false =>
    cases htick : takesTick s with
    | true =>
      obtain ⟨-, -, hen⟩ := (takesTick_iff s).1 htick
      obtain ⟨-, hpend, -⟩ := (tickEnabled_iff s).1 hen
      simp [pend_of_takesTick hb h htick, hpend]
    | false =>
      obtain ⟨hpendSet, -⟩ := flagTable s t hb h
      cases hpend : s.pend with
      | true => simp [pend_of_not_takesTick hb h htick (.inl hpend)]
      | false =>
        have hkept : t.pend = false := by
          by_contra ht
          simp [hpendSet hpend (by simpa using ht)] at hev
        simp [hkept]

theorem pend_balance_of_run {k : Nat} {s t : State} (hinv : Invariant s) (hrun : runsTo k s t) (hovr : t.ovr = false) :
    countAlong takesTick k s + t.pend.toNat = countAlong raisesEvent k s + s.pend.toNat := by
  induction k generalizing s with
  | zero =>
    obtain rfl := runsTo_zero.1 hrun
    rfl
  | succ k ih =>
    obtain ⟨u, hstep, hrest⟩ := runsTo_succ.1 hrun
    have hinv' := invariantKept s u hinv hstep
    have hovr' : u.ovr = false := by
      by_contra hset
      simp [ovr_of_run hinv' hrest (by simpa using hset)] at hovr
    have hfirst := pend_balance_of_step hinv.booted hstep hovr'
    have hlater := ih hinv' hrest
    rw [countAlong_succ hstep, countAlong_succ hstep]
    omega

/-- A request made in RUNNING with `TIE = 1`, pending at the start or raised on the way, enables `TICK` at the
end of a run without a `TICK` or a `TIE #0`. -/
theorem tickEnabled_of_run {k : Nat} {s t : State} (hinv : Invariant s) (hm : s.mode = .running) (htie : s.tie = true)
    (hrun : runsTo k s t) (hno : holdsAlong (fun u => delivers 0x03000000#32 u = false) k s)
    (hnotick : countAlong takesTick k s = 0) (hreq : s.pend = true ∨ 1 ≤ countAlong raisesEvent k s) :
    tickEnabled t = true := by
  induction k generalizing s with
  | zero =>
    obtain rfl := runsTo_zero.1 hrun
    have hpend : t.pend = true := by simpa [countAlong] using hreq
    exact (tickEnabled_iff t).2 ⟨hm, hpend, htie⟩
  | succ k ih =>
    obtain ⟨u, hstep, hrest⟩ := runsTo_succ.1 hrun
    obtain ⟨hfirst, hno⟩ := (holdsAlong_succ hstep).1 hno
    rw [countAlong_succ hstep] at hnotick hreq
    have htick : takesTick s = false := by
      by_contra htick
      simp [htick] at hnotick
    have hreq' : u.pend = true ∨ 1 ≤ countAlong raisesEvent k u := by
      rcases hreq with hpend | hcount
      · exact .inl (pend_of_not_takesTick hinv.booted hstep htick (.inl hpend))
      · cases hev : raisesEvent s with
        | true => exact .inl (pend_of_not_takesTick hinv.booted hstep htick (.inr hev))
        | false => exact .inr (by simpa [hev] using hcount)
    exact ih (invariantKept s u hinv hstep) (running_of_step hinv.booted hstep hm).1
      (tie_of_step hinv.booted hstep htie hfirst) hrest hno (by omega) hreq'

/-! ### The statements of the timer -/

/-- Settles O42: the counts of the run add up (`count_balance_of_run`), and the invariant keeps the remainder below
`PERIOD`. -/
theorem exactPeriod : Obligations.ExactPeriod := by
  intro k s t hinv hm hrun
  obtain ⟨hmode, hperiod, hcount⟩ := count_balance_of_run hinv hm hrun
  obtain ⟨hpos, hlt⟩ := (invariant_of_run hinv hrun).counting hmode
  rw [hperiod] at hpos hlt
  obtain ⟨hdiv, hmod⟩ := (Nat.div_mod_unique hpos).2 ⟨hcount.symm, hlt⟩
  exact ⟨hmode, hperiod, hdiv.symm, hmod.symm⟩

/-- Settles O43: the requests made and taken add up along the run. -/
theorem ticksMatchEvents : Obligations.TicksMatchEvents :=
  fun _ _ _ hinv hrun hovr => pend_balance_of_run hinv hrun hovr

/-- Settles O59: PERIOD TCLKs raise an event; if the first run takes no tick, its request waits for ENGINE's turn in
the second. -/
theorem refreshGoesOn : Obligations.RefreshGoesOn := by
  intro k l s m t hinv hm htie hfirst hsecond hno hno' htclks hturn
  rcases Nat.eq_zero_or_pos (countAlong takesTick k s) with hnotick | htick
  · have hevent : 1 ≤ countAlong raisesEvent k s := by
      obtain ⟨-, -, hcount, -⟩ := exactPeriod k s m hinv hm hfirst
      rw [hcount]
      exact Nat.div_pos (by omega) (hinv.counting hm).1
    have hen := tickEnabled_of_run hinv hm htie hfirst hno hnotick (.inr hevent)
    have htaken := enabledTickIsTaken l m t (invariant_of_run hinv hfirst) hen hsecond hno' hturn
    omega
  · omega

/-- Settles O41: `TCLK` by the position in the period, and `TIMER_EVENT` by whether a tick is pending. -/
theorem tclkRule : Obligations.TclkRule := by
  intro s
  refine ⟨tclk_of_not_running, fun hm hlast hpend => ?_, fun hm hlast hpend => ?_, fun hm hbefore => ?_,
    fun hinv hm => ?_⟩
  · rw [tclk_of_last hm hlast]
    exact congrArg Host.Outcome.next (if_neg (by simp [hpend]))
  · rw [tclk_of_last hm hlast]
    exact congrArg Host.Outcome.next (if_pos hpend)
  · exact ⟨s.tcnt + 1#16, toNat_add_one_of_lt hbefore, tclk_of_before_last hm hbefore⟩
  · obtain ⟨hpos, hlt⟩ := hinv.counting hm
    exact ⟨by bv_omega, tclk_completes fun _ => BitVec.lt_def.2 hlt⟩

/-- Settles O53: outside RUNNING there is no tick and no event, and RUNNING is never left. -/
theorem neutralUntilStart : Obligations.NeutralUntilStart := by
  refine ⟨fun p _ => ⟨rfl, rfl, rfl⟩, fun s t hb hneutral h hm' => ?_⟩
  have hm : s.mode ≠ .running := fun hm => hm' (running_of_step hb h hm).1
  obtain ⟨hcursor, hovr, htrace⟩ := hneutral hm
  have hnotick : takesTick s = false := by simp [takesTick, tickEnabled, hm]
  obtain ⟨-, -, -, hovrSet, -⟩ := flagTable s t hb h
  refine ⟨?_, ?_, ?_⟩
  · rw [(cursorOwnedByEngine s t hb h).1 hnotick, hcursor]
  · by_contra hset
    obtain ⟨hev, -⟩ := hovrSet hovr (by simpa using hset)
    obtain ⟨-, -, hrunning, -⟩ := (raisesEvent_iff s).1 hev
    exact hm hrunning
  · rw [(outputs_of_not_takesTick hb h hnotick).1, params_of_step hb h, htrace]

end Sys2Proof.Machine

/-!
PROOFS. The statements of 43_host_commands.md: the rule of each command, where a command completes and what it leaves
unchanged, and that what HOST writes is shown within a cycle of ticks. First the laws they cite, in the order of the
definitions they speak of.
-/
namespace Sys2Proof

/-! ### The words of the commands with operands (R63 to R66, R119 to R122) -/

theorem setWidth_flagData (b : Bool) : (flagData b).setWidth 32 = (BitVec.ofBool b).setWidth 32 := by cases b <;> rfl

theorem setWidth_byteData (v : Byte) : (byteData v).setWidth 32 = v.setWidth 32 := by
  have hv : byteData v = BitVec.ofNat 16 v.toNat := by
    rw [← byteData_ofNat v.isLt, BitVec.ofNat_toNat, BitVec.setWidth_eq]
  rw [hv, BitVec.setWidth_ofNat_of_le_of_lt (by omega) (by omega), BitVec.ofNat_toNat]

theorem encode_setpat (s : Byte) (b : Bool) :
    encode (.setpat s b) = 0x10000000#32 ||| s.setWidth 32 <<< 16 ||| (BitVec.ofBool b).setWidth 32 := by
  rw [encode, packWord_eq_or, setWidth_flagData]
  rfl

theorem encode_setmask (m : Byte) : encode (.setmask m) = 0x11000000#32 ||| m.setWidth 32 := by
  rw [encode, packWord_eq_or, setWidth_byteData]
  rfl

theorem encode_setdig (s v : Byte) :
    encode (.setdig s v) = 0x20000000#32 ||| s.setWidth 32 <<< 16 ||| v.setWidth 32 := by
  rw [encode, packWord_eq_or, setWidth_byteData]
  rfl

theorem encode_setdp (s : Byte) (b : Bool) :
    encode (.setdp s b) = 0x21000000#32 ||| s.setWidth 32 <<< 16 ||| (BitVec.ofBool b).setWidth 32 := by
  rw [encode, packWord_eq_or, setWidth_flagData]
  rfl

/-- A word written another way decodes to its command. -/
theorem decode_of_encode_eq {i : Instr} {w : Word} (h : encode i = w) : decode w = .ok i :=
  h ▸ Machine.encodeThenDecode i

end Sys2Proof

namespace Sys2Proof.Machine

/-! ### The meaning of a command by its case (R114 to R122) -/

/-- Each effect that a command is listed with is what `exec` answers under that effect's guards: the converse of
`exec_next`. -/
theorem CommandEffect.exec_eq {s t : State} {i : Instr} (h : CommandEffect s i t) : exec i s = .next t := by
  cases h with
  | nop | tie => rfl
  | cfgper p hm => exact if_pos hm
  | cfgperLocked p hm => exact exec_cfgper_of_not_idle hm p
  | start hm hp => exact (if_pos hm).trans (if_neg hp)
  | startInvalid hm hp => exact exec_start_of_period_zero hm hp
  | startLocked hm => exact exec_start_of_not_idle hm
  | setpat _ _ hv hi | setdig _ _ hv hi | setdp _ _ hv hi => exact (if_pos hv).trans (if_pos hi)
  | setmask _ hv => exact if_pos hv
  | setpatMismatch _ _ hv | setmaskMismatch _ hv | setdigMismatch _ _ hv | setdpMismatch _ _ hv => exact if_neg hv
  | setpatIndex _ _ hv hi | setdigIndex _ _ hv hi | setdpIndex _ _ hv hi =>
    exact (if_pos hv).trans (if_neg (not_lt.2 hi))

/-! ### HOST's step on a rejected and on a decoded word (R69, R71, R114) -/

/-- A word that its row's `match` and `mask` do not accept records RESERVED_BITS (R69 step 3). -/
theorem hostStep_of_not_match {w : Word} {op : Opcode} {s : State} (hop : opField w = op.code)
    (hfit : op.fits s.params.variant = true) (hno : w &&& op.maskWord ≠ op.matchWord) :
    hostStep w s = .next (raiseFault .reservedBits s) := by
  rw [hostStep_of_opcode hop, if_neg (by simp [hfit]), if_pos hno]

/-- A word with a 1 in a reserved-zero bit records RESERVED_BITS (R71). -/
theorem hostStep_of_reservedBits {w : Word} {op : Opcode} {s : State} (hop : opField w = op.code)
    (hfit : op.fits s.params.variant = true)
    (hno : w.extractLsb' op.reservedBits.1 op.reservedBits.2 ≠ 0#op.reservedBits.2) :
    hostStep w s = .next (raiseFault .reservedBits s) :=
  hostStep_of_not_match hop hfit (mt (match_iff_reservedBits_eq_zero hop).1 hno)

/-- An opcode whose mask covers the whole word has one word; any other faults. -/
theorem hostStep_of_ne_matchWord {w : Word} {op : Opcode} {s : State} (hop : opField w = op.code)
    (hfit : op.fits s.params.variant = true) (hmask : op.maskWord = BitVec.allOnes 32) (hno : w ≠ op.matchWord) :
    hostStep w s = .next (raiseFault .reservedBits s) :=
  hostStep_of_not_match hop hfit (by rwa [hmask, BitVec.and_allOnes])

/-- A command of the other variant repeats the check of R69 step 2 with the same fault. -/
theorem exec_operands_of_not_fits {op : Opcode} {s : State} (w : Word) (h : op.fits s.params.variant = false) :
    exec (op.operands w) s = .next (raiseFault .variantMismatch s) := by
  cases hv : s.params.variant <;> rw [hv] at h
  case charlie =>
    have hne : s.params.variant ≠ .ssd := by simp [hv]
    cases op with
    | setdig => exact (CommandEffect.setdigMismatch _ _ hne).exec_eq
    | setdp => exact (CommandEffect.setdpMismatch _ _ hne).exec_eq
    | nop | cfgper | start | tie | setpat | setmask => cases h
  case ssd =>
    have hne : s.params.variant ≠ .charlie := by simp [hv]
    cases op with
    | setpat => exact (CommandEffect.setpatMismatch _ _ hne).exec_eq
    | setmask => exact (CommandEffect.setmaskMismatch _ hne).exec_eq
    | nop | cfgper | start | tie | setdig | setdp => cases h

/-- A command with its index out of range repeats the check of R69 step 4 with the same fault. -/
theorem exec_operands_of_badIndex {op : Opcode} {s : State} {w : Word} (hfit : op.fits s.params.variant = true)
    (hop : op.indexed = true) (hi : s.params.variant.nslots ≤ (idxField w).toNat) :
    exec (op.operands w) s = .next (raiseFault .badIndex s) := by
  cases hv : s.params.variant <;> rw [hv] at hfit hi
  case charlie =>
    cases op with
    | setpat => exact (CommandEffect.setpatIndex _ _ hv hi).exec_eq
    | setdig | setdp => cases hfit
    | nop | cfgper | start | tie | setmask => cases hop
  case ssd =>
    cases op with
    | setdig => exact (CommandEffect.setdigIndex _ _ hv hi).exec_eq
    | setdp => exact (CommandEffect.setdpIndex _ _ hv hi).exec_eq
    | setpat => cases hfit
    | nop | cfgper | start | tie | setmask => cases hop

/-- HOST's step on a word that decodes is the command's meaning: where the variant or the index is wrong, the meaning
records the fault that the decode check records (R114). -/
theorem hostStep_of_decode {w : Word} {i : Instr} (h : decode w = .ok i) (s : State) : hostStep w s = exec i s := by
  obtain ⟨op, hop, hmatch, rfl⟩ := decode_ok.1 h
  rw [hostStep_of_opcode hop]
  split_ifs with hfit hno hidx
  · exact (exec_operands_of_not_fits w hfit).symm
  · exact absurd hmatch hno
  · exact (exec_operands_of_badIndex (by simpa using hfit) hidx.1 hidx.2).symm
  · rfl

/-! ### FAULTED is for good (R23, R117) -/

theorem AgentEffect.timer_not_running {s t : State} (h : AgentEffect s .timer t) (hm : s.mode ≠ .running) : t = s := by
  cases h with
  | notCounting => rfl
  | event hrunning | count hrunning => exact absurd hrunning hm

/-- FAULTED is neither left nor counted in. -/
theorem faulted_of_step {s t : State} (hb : s.booted = true) (h : step s = .next t) (hm : s.mode = .faulted) :
    t.mode = .faulted ∧ t.tcnt = s.tcnt := by
  constructor
  · rcases modeTransitions s t hb h with hkept | ⟨hidle, -⟩
    · exact hkept.trans hm
    · exact nomatch hm.symm.trans hidle
  · obtain ⟨a, n, -, -, heff⟩ := step_effect hb h
    rcases heff.tcnt_write with hkept | hturn | hidle
    · exact hkept
    · rw [hturn] at heff
      rw [heff.timer_not_running (by simp [hm])]
      rfl
    · exact nomatch hm.symm.trans hidle

/-! ### The drive of one slot, by that slot's own value (R79, R80, R85) -/

/-- A slot's own bit decides its drive: where it is 1, the display is not all off. -/
theorem charlieDrive_eq_ite (v : Byte) {c : BitVec 3} (e : Byte) (hc : c.toNat < 6) :
    charlieDrive v c e = if v.getLsbD c.toNat then chDrive e else some Pins.allZ := by
  cases hbit : v.getLsbD c.toNat with
  | false => exact charlieDrive_of_off e (.inr hbit)
  | true =>
    refine charlieDrive_of_on e (fun hnone => ?_) hbit
    have hzero := congrArg (BitVec.getLsbD · c.toNat) hnone
    simp [hc, hbit] at hzero

/-- The drive of LED `i` when its bit is `b`, whatever the other LEDs show. -/
theorem slotDrive_of_bit {p : Params} {shown : Byte × Vector Byte 4 × Vector Bool 4} {i : Fin 6} {b : Bool} {ps : Pins}
    (hv : p.variant = .charlie) (hps : (if b then chDrive p.charlieMap[i] else some Pins.allZ) = some ps)
    (hbit : shown.1.getLsbD i.val = b) : slotDrive p shown (BitVec.ofNat 3 i.val) = some (.charlie ps) := by
  have hi : (BitVec.ofNat 3 i.val).toNat = i.val := Nat.mod_eq_of_lt (by omega)
  have hc : (BitVec.ofNat 3 i.val).toNat < 6 := by omega
  rw [slotDrive_charlie hv hc, charlieDrive_eq_ite _ _ hc]
  simp only [hi, hbit]
  exact congrArg (Option.map OutVec.charlie) hps

/-- The drive of digit `i` when it holds `d` and `dp`, whatever the other digits show. -/
theorem slotDrive_of_digit {p : Params} {shown : Byte × Vector Byte 4 × Vector Bool 4} {i : Fin 4} {d g : Byte}
    {dp : Bool} (hv : p.variant = .ssd) (hg : segmentsFor p d = some g) (hd : shown.2.1[i] = d)
    (hdp : shown.2.2[i] = dp) :
    slotDrive p shown (BitVec.ofNat 3 i.val) = some (.ssd (withDp g dp) (1#4 <<< i.val)) := by
  have hi : (BitVec.ofNat 3 i.val).toNat = i.val := Nat.mod_eq_of_lt (by omega)
  rw [Fin.getElem_fin] at hd hdp
  simp [slotDrive, hv, hi, hd, hdp, hg]

/-! ### A slot is shown in every cycle (R125, R158) -/

theorem holdsAlong_imp {p q : State → Prop} (hpq : ∀ u, p u → q u) {k : Nat} {s : State} (h : holdsAlong p k s) :
    holdsAlong q k s := by
  induction k generalizing s with
  | zero => trivial
  | succ k ih =>
    obtain ⟨hs, hrest⟩ := h
    refine ⟨hpq s hs, ?_⟩
    cases hstep : step s with
    | next u => exact ih (by simpa [hstep] using hrest)
    | fault r => trivial
    | refused r => trivial

theorem mem_slotOutputs {p : Params} {shown : Byte × Vector Byte 4 × Vector Bool 4} {c : Nat} {drive : OutVec}
    (h : slotDrive p shown (BitVec.ofNat 3 c) = some drive) : drive ∈ slotOutputs p shown c := by
  simp [slotOutputs, h]

/-- `NSLOTS` ticks drive every slot (R90). -/
theorem mem_slotsAlong_of_cycle {k c : Nat} {s t : State} (hinv : Invariant s) (hrun : runsTo k s t)
    (hcycle : countAlong takesTick k s = s.params.variant.nslots) (hc : c < s.params.variant.nslots) :
    c ∈ slotsAlong k s := by
  have hcursor := hinv.cursorRange
  rw [(slots_of_run hinv hrun).1, hcycle, List.mem_map]
  generalize s.params.variant.nslots = n at hc hcursor ⊢
  rcases Nat.lt_or_ge c s.cursor.toNat with hbefore | hfrom
  · refine ⟨n + c - s.cursor.toNat, List.mem_range.2 (by omega), ?_⟩
    rw [Nat.add_sub_of_le (by omega), Nat.add_mod_left, Nat.mod_eq_of_lt hc]
  · refine ⟨c - s.cursor.toNat, List.mem_range.2 (by omega), ?_⟩
    rw [Nat.add_sub_of_le hfrom, Nat.mod_eq_of_lt hc]

/-- A run only appends to the trace, and where slot `c`'s drive is the same in all its states, a tick of `c` in it
appends that drive. -/
theorem drive_emitted_of_run {k c : Nat} {s t : State} {p : Params} {drive : OutVec} (hinv : Invariant s)
    (hp : s.params = p) (hrun : runsTo k s t)
    (hdrive : holdsAlong (fun u => slotDrive p (display u) (BitVec.ofNat 3 c) = some drive) k s) :
    ∃ emitted, t.trace = s.trace ++ emitted ∧ (c ∈ slotsAlong k s → drive ∈ emitted) := by
  induction k generalizing s with
  | zero =>
    obtain rfl := runsTo_zero.1 hrun
    exact ⟨[], by simp, nofun⟩
  | succ k ih =>
    obtain ⟨u, hstep, hrest⟩ := runsTo_succ.1 hrun
    obtain ⟨hfirst, hdrive⟩ := (holdsAlong_succ hstep).1 hdrive
    obtain ⟨emitted, htrace, hlater⟩ :=
      ih (invariantKept s u hinv hstep) ((params_of_step hinv.booted hstep).trans hp) hrest hdrive
    rw [slotsAlong_succ hstep]
    cases htick : takesTick s with
    | false =>
      rw [(outputs_of_not_takesTick hinv.booted hstep htick).1] at htrace
      exact ⟨emitted, htrace, hlater⟩
    | true =>
      rw [trace_of_takesTick hinv.booted hstep htick, hp, List.append_assoc] at htrace
      refine ⟨_, htrace, fun hmem => List.mem_append.2 ?_⟩
      rcases List.mem_append.1 hmem with hnow | hrest
      · obtain rfl := List.mem_singleton.1 hnow
        exact .inl (mem_slotOutputs hfirst)
      · exact .inr (hlater hrest)

/-- Over a cycle of ticks, the drive that slot `c` has throughout is emitted. -/
theorem drive_mem_trace_of_cycle {k c : Nat} {s t : State} {drive : OutVec} (hinv : Invariant s)
    (hrun : runsTo k s t) (hcycle : countAlong takesTick k s = s.params.variant.nslots)
    (hc : c < s.params.variant.nslots)
    (hdrive : holdsAlong (fun u => slotDrive s.params (display u) (BitVec.ofNat 3 c) = some drive) k s) :
    drive ∈ t.trace.drop s.trace.length := by
  obtain ⟨emitted, htrace, hshown⟩ := drive_emitted_of_run hinv rfl hrun hdrive
  rw [htrace, List.drop_left]
  exact hshown (mem_slotsAlong_of_cycle hinv hrun hcycle hc)

/-! ### The statements of the host commands -/

/-- Settles O56: the slot's own value fixes its drive, and a cycle ticks every slot. -/
theorem slotShownWithinCycle : Obligations.SlotShownWithinCycle := by
  intro k s t hinv hrun hcycle
  refine ⟨fun hv i b hheld => ?_, fun hv i d dp hheld => ?_⟩
  · obtain ⟨-, hmap, -⟩ := (Params.legal_iff _).1 hinv.paramsLegal
    have hdriven : ∃ ps, (if b then chDrive s.params.charlieMap[i] else some Pins.allZ) = some ps := by
      cases b with
      | false => exact ⟨_, rfl⟩
      | true => exact exists_chDrive_eq_some (((charlieMapOk_iff _).1 hmap).1 i)
    obtain ⟨ps, hps⟩ := hdriven
    exact ⟨ps, hps, drive_mem_trace_of_cycle hinv hrun hcycle (by rw [hv]; exact i.isLt)
      (holdsAlong_imp (fun _ hbit => slotDrive_of_bit hv hps hbit) hheld)⟩
  · obtain ⟨g, hg⟩ := exists_segmentsFor_eq_some hv d
    exact ⟨g, hg, drive_mem_trace_of_cycle hinv hrun hcycle (by rw [hv]; exact i.isLt)
      (holdsAlong_imp (fun _ ⟨hd, hdp⟩ => slotDrive_of_digit hv hg hd hdp) hheld)⟩

/-- Settles O13: the row's mask covers the whole word, so every other word of opcode 0 fails the reserved-bit check. -/
theorem nopRule : Obligations.NopRule :=
  ⟨fun _ => rfl, rfl, fun _ => rfl, fun _ _ hop hne => hostStep_of_ne_matchWord (op := .nop) hop rfl rfl hne⟩

/-- Settles O14: by the mode, and by `encode_cfgper`. -/
theorem cfgperRule : Obligations.CfgperRule := by
  refine fun s p => ⟨fun hm => (CommandEffect.cfgper p hm).exec_eq, fun hm => exec_cfgper_of_not_idle ?_ p,
    decode_of_encode_eq (encode_cfgper p), fun w hop hidx => hostStep_of_reservedBits (op := .cfgper) hop rfl hidx⟩
  rcases hm with hm | hm <;> simp [hm]

/-- Settles O15: by the mode and the period; FAULTED is left by no step, and there nothing counts and no tick is
enabled. -/
theorem startRule : Obligations.StartRule := by
  refine fun s => ⟨fun hm hp => (CommandEffect.start hm hp).exec_eq, fun hm hp => exec_start_of_period_zero hm hp,
    fun hm => exec_start_of_not_idle hm, rfl, fun w hop hne => hostStep_of_ne_matchWord (op := .start) hop rfl rfl hne,
    fun t hb hm h => ?_⟩
  obtain ⟨htrace, hpins, hseg, hdig⟩ := outputs_of_not_takesTick hb h (by simp [takesTick, tickEnabled, hm])
  obtain ⟨hmode, htcnt⟩ := faulted_of_step hb h hm
  exact ⟨hmode, htcnt, htrace, hpins, hseg, hdig⟩

/-- Settles O16: the write of `TIE` in every mode; a tick is enabled with `TIE = 1` only. -/
theorem tieRule : Obligations.TieRule := fun s _ =>
  ⟨rfl, ⟨rfl, rfl⟩, fun _ hop hres => hostStep_of_reservedBits (op := .tie) hop rfl hres,
    by simp [tickEnabled], fun hm hp => (tickEnabled_iff _).2 ⟨hm, hp, rfl⟩⟩

/-- Settles O17: by the variant and the index, bit by bit. -/
theorem setpatRule : Obligations.SetpatRule := by
  refine fun s i b => ⟨fun hv hi => ⟨_, (CommandEffect.setpat i b hv hi).exec_eq, ?_, fun k hk hne => ?_, rfl⟩,
    fun hv hi => (CommandEffect.setpatIndex i b hv hi).exec_eq,
    fun hv => (CommandEffect.setpatMismatch i b (by simp [hv])).exec_eq, decode_of_encode_eq (encode_setpat i b),
    fun w hv hop hres => hostStep_of_reservedBits (op := .setpat) hop (by rw [hv]; rfl) hres⟩
  · rw [State.withCharlieVal_charlieVal, getLsbD_setBit _ _ (by omega), if_pos rfl]
  · rw [State.withCharlieVal_charlieVal, getLsbD_setBit _ _ hk, if_neg hne]

/-- Settles O18: by the variant; a slot's drive depends on the slot's own bit, and no slot has bit 6 or 7. -/
theorem setmaskRule : Obligations.SetmaskRule := by
  refine fun s m => ⟨fun hv => (CommandEffect.setmask m hv).exec_eq,
    fun hv => (CommandEffect.setmaskMismatch m (by simp [hv])).exec_eq, decode_of_encode_eq (encode_setmask m),
    fun w hv hop hres => hostStep_of_reservedBits (op := .setmask) hop (by rw [hv]; rfl) hres, fun c e hc => ?_⟩
  have hlow : ∀ k < 6, (0x3F#8).getLsbD k = true := by decide
  rw [charlieDrive_eq_ite m e hc, charlieDrive_eq_ite _ e hc, BitVec.getLsbD_and, hlow _ hc, Bool.and_true]

/-- Settles O19: by the variant and the index. -/
theorem setdigRule : Obligations.SetdigRule := fun s i v =>
  ⟨fun hv hi => ⟨_, (CommandEffect.setdig i v hv hi).exec_eq, Vector.getElem?_setIfInBounds_self_of_lt hi,
      fun _ hne => Vector.getElem?_setIfInBounds_ne hne.symm, rfl⟩,
    fun hv hi => (CommandEffect.setdigIndex i v hv hi).exec_eq,
    fun hv => (CommandEffect.setdigMismatch i v (by simp [hv])).exec_eq, decode_of_encode_eq (encode_setdig i v),
    fun _ hv hop hres => hostStep_of_reservedBits (op := .setdig) hop (by rw [hv]; rfl) hres,
    segmentsFor_of_gt s.params⟩

/-- Settles O20: by the variant and the index. -/
theorem setdpRule : Obligations.SetdpRule := fun s i b =>
  ⟨fun hv hi => ⟨_, (CommandEffect.setdp i b hv hi).exec_eq, Vector.getElem?_setIfInBounds_self_of_lt hi,
      fun _ hne => Vector.getElem?_setIfInBounds_ne hne.symm, rfl⟩,
    fun hv hi => (CommandEffect.setdpIndex i b hv hi).exec_eq,
    fun hv => (CommandEffect.setdpMismatch i b (by simp [hv])).exec_eq, decode_of_encode_eq (encode_setdp i b),
    fun _ hv hop hres => hostStep_of_reservedBits (op := .setdp) hop (by rw [hv]; rfl) hres, rfl⟩

/-- Settles O21: each command's conditions are the guards of its own effect. -/
theorem commandsComplete : Obligations.CommandsComplete := by
  intro i s hguard
  cases i with
  | nop => exact ⟨s, CommandEffect.nop.exec_eq, rfl, rfl, rfl⟩
  | cfgper p => exact ⟨_, (CommandEffect.cfgper p hguard).exec_eq, rfl, rfl, rfl⟩
  | start =>
    obtain ⟨hm, hp⟩ := hguard
    exact ⟨_, (CommandEffect.start hm hp).exec_eq, rfl, rfl, rfl, rfl⟩
  | tie b => exact ⟨_, (CommandEffect.tie b).exec_eq, rfl, rfl, rfl⟩
  | setpat j b =>
    obtain ⟨hv, hj⟩ := hguard
    exact ⟨_, (CommandEffect.setpat j b hv hj).exec_eq, rfl, rfl,
      (getLsbD_setBit _ b (by omega)).trans (if_pos rfl)⟩
  | setmask m => exact ⟨_, (CommandEffect.setmask m hguard).exec_eq, rfl, rfl, rfl⟩
  | setdig j v =>
    obtain ⟨hv, hj⟩ := hguard
    exact ⟨_, (CommandEffect.setdig j v hv hj).exec_eq, rfl, rfl, Vector.getElem?_setIfInBounds_self_of_lt hj⟩
  | setdp j b =>
    obtain ⟨hv, hj⟩ := hguard
    exact ⟨_, (CommandEffect.setdp j b hv hj).exec_eq, rfl, rfl, Vector.getElem?_setIfInBounds_self_of_lt hj⟩

/-- Settles O23: HOST's frame, and `outputs_of_not_takesTick`. -/
theorem commandsLeaveOutputs : Obligations.CommandsLeaveOutputs := by
  refine ⟨fun w s t h => ?_, fun s t hb h hno => ?_⟩
  · have heff : AgentEffect s (.host w) t := perform_next h
    rw [heff.host_frame]
    exact ⟨rfl, rfl, rfl, rfl, rfl, rfl, rfl⟩
  · obtain ⟨htrace, hpins, hseg, hdig⟩ := outputs_of_not_takesTick hb h hno
    exact ⟨hpins, hseg, hdig, htrace⟩

/-- Settles O6: the turn is HOST's, and its step is the command's meaning. -/
theorem stepRunsDecodedCommand : Obligations.StepRunsDecodedCommand := by
  intro s w i rest hp hb hl hagenda hdecode
  rw [step_eq_perform hp hb hl, nextTurn_of_cons hagenda]
  exact hostStep_of_decode hdecode (s.withAgenda rest)

end Sys2Proof.Machine

/-!
PROOFS. The statements of 60_exceptions.md: what a recorded fault writes, and that the refresh does not read it. First
the laws they cite, in the order of the definitions they speak of.
-/
namespace Sys2Proof.Machine

/-! ### A fault is precise (R129, R131) -/

/-- A command leaves the fault record, or does nothing but add to it; the one exception is `START` without a period,
which enters FAULTED before its `raise` (R117). -/
theorem CommandEffect.fault_precise {s t : State} {i : Instr} (h : CommandEffect s i t) :
    (t.fault = s.fault ∧ t.cause = s.cause) ∨ (∃ c, c ≠ .none ∧ t = raiseFault c s) ∨
      (i = .start ∧ s.mode = .idle ∧ s.period = 0#16 ∧ t = raiseFault .configError (s.withMode .faulted)) := by
  cases h with
  | nop | cfgper | start | tie | setpat | setmask | setdig | setdp => exact .inl ⟨rfl, rfl⟩
  | cfgperLocked | startLocked => exact .inr (.inl ⟨.cfgLocked, nofun, rfl⟩)
  | startInvalid hm hp => exact .inr (.inr ⟨rfl, hm, hp, rfl⟩)
  | setpatMismatch | setmaskMismatch | setdigMismatch | setdpMismatch =>
    exact .inr (.inl ⟨.variantMismatch, nofun, rfl⟩)
  | setpatIndex | setdigIndex | setdpIndex => exact .inr (.inl ⟨.badIndex, nofun, rfl⟩)

/-! ### TIMER and ENGINE do not read the fault record (R129) -/

theorem timerEvent_faultRecord (s : State) (f : Bool) (c : Cause) :
    timerEvent { s with fault := f, cause := c } = { timerEvent s with fault := f, cause := c } := by
  rw [timerEvent_eq, timerEvent_eq]

/-- The mode, the counter and the period alone decide which of its cases `TCLK` takes. -/
theorem tclk_faultRecord {s t : State} (h : tclk s = .next t) (f : Bool) (c : Cause) :
    tclk { s with fault := f, cause := c } = .next { t with fault := f, cause := c } := by
  rcases tclk_next h with ⟨hm, rfl⟩ | ⟨hm, hlt, hlast, rfl⟩ | ⟨hm, hlt, hne, rfl⟩
  · exact tclk_of_not_running hm
  · rw [← timerEvent_faultRecord]
    exact (if_pos hm).trans ((if_pos hlt).trans (if_pos hlast))
  · exact (if_pos hm).trans ((if_pos hlt).trans (if_neg hne))

/-- The slot's drive is a function of the parameters, DisplayState and the cursor, and `finishTick` carries the fault
record along. -/
theorem tick_faultRecord {s t : State} (h : tick s = .next t) (f : Bool) (c : Cause) :
    tick { s with fault := f, cause := c } = .next { t with fault := f, cause := c } := by
  obtain ⟨drive, hdrive, rfl⟩ := (tick_eq_next_iff s t).1 h
  exact (tick_eq_next_iff _ _).2 ⟨drive, hdrive, rfl⟩

theorem engineStep_faultRecord {s t : State} (h : engineStep s = .next t) (f : Bool) (c : Cause) :
    engineStep { s with fault := f, cause := c } = .next { t with fault := f, cause := c } := by
  unfold engineStep at h
  split_ifs at h with hen
  · exact (if_pos hen).trans (tick_faultRecord h f c)
  · cases h
    exact if_neg hen

/-! ### The statements of the exceptions -/

/-- Settles O25: a rejected word records its cause, and a command is `fault_precise`. -/
theorem faultsArePrecise : Obligations.FaultsArePrecise := by
  refine ⟨fun _ _ => rfl, fun w s t h => ?_⟩
  rcases AgentEffect.host_cases (perform_next (e := .host w) h) with hrejected | ⟨i, rfl, heff⟩
  · exact .inr (.inl hrejected)
  · rcases heff.fault_precise with hkept | hrecorded | ⟨rfl, hstart⟩
    · exact .inl hkept
    · exact .inr (.inl hrecorded)
    · exact .inr (.inr ⟨rfl, hstart⟩)

/-- Settles O26: neither turn reads `FAULT` or `CAUSE`. -/
theorem faultDoesNotStopRefresh : Obligations.FaultDoesNotStopRefresh :=
  fun _ _ f c => ⟨fun h => tclk_faultRecord h f c, fun h => engineStep_faultRecord h f c⟩

end Sys2Proof.Machine

/-!
PROOFS. The statements of 70_reset_and_hazards.md: RESET and the turns around it, and the window shorter than the period.
First the laws they cite, in the order of the definitions they speak of.
-/
namespace Sys2Proof.Machine

/-! ### Steps before and after RESET (R149) -/

/-- The step under legal parameters before RESET is what its agent's turn does there. -/
theorem step_eq_beforeReset {s : State} (hp : s.params.legal = true) (hb : s.booted = false) :
    step s = .next (beforeReset (nextTurn s).1 (nextTurn s).2) := by
  simp [step, advance, hp, hb]

/-- Before RESET no other agent has a step. -/
theorem beforeReset_of_ne {e : AgentStep} (he : e ≠ .reset) (s : State) : beforeReset e s = s := by
  cases e with
  | reset => exact absurd rfl he
  | host w => rfl
  | timer => rfl
  | engine => rfl

/-- RESET stays taken. -/
theorem booted_of_step {s t : State} (hb : s.booted = true) (h : step s = .next t) : t.booted = true := by
  obtain ⟨a, n, -, -, heff⟩ := step_effect hb h
  rcases heff.host_or_frame with ⟨w, c, -, -, rfl⟩ | ⟨i, -, he⟩ | hframe
  · exact hb
  · exact (congrArg State.booted he.frame :).trans hb
  · exact (congrArg State.booted hframe :).trans hb

/-! ### Requests that lose no tick (R28, R106) -/

/-- A step leaves no more requests than were pending or are raised in it. -/
theorem pend_le_of_step {s t : State} (hb : s.booted = true) (h : step s = .next t) :
    t.pend.toNat ≤ s.pend.toNat + (if raisesEvent s then 1 else 0) := by
  obtain ⟨hpendSet, -⟩ := flagTable s t hb h
  cases hpend : s.pend with
  | true => exact le_add_right (Bool.toNat_le _)
  | false =>
    cases hpend' : t.pend with
    | true => simp [hpendSet hpend hpend']
    | false => simp

/-- Only an event that finds a request pending writes `OVR`. -/
theorem ovr_of_step {s t : State} (hb : s.booted = true) (h : step s = .next t)
    (hone : ¬ (raisesEvent s = true ∧ s.pend = true)) : t.ovr = s.ovr := by
  obtain ⟨-, -, hkept, hovrSet, -⟩ := flagTable s t hb h
  cases hovr : s.ovr with
  | true => exact hkept hovr
  | false =>
    by_contra hset
    exact hone (hovrSet hovr (by simpa using hset))

/-- Where the pending request and the events of a run are at most one together, no overrun is recorded in it. -/
theorem ovr_of_run_of_le_one {k : Nat} {s t : State} (hinv : Invariant s) (hrun : runsTo k s t)
    (hone : s.pend.toNat + countAlong raisesEvent k s ≤ 1) : t.ovr = s.ovr := by
  induction k generalizing s with
  | zero =>
    obtain rfl := runsTo_zero.1 hrun
    rfl
  | succ k ih =>
    obtain ⟨u, hstep, hrest⟩ := runsTo_succ.1 hrun
    rw [countAlong_succ hstep] at hone
    have hpend := pend_le_of_step hinv.booted hstep
    have hfirst : u.ovr = s.ovr := ovr_of_step hinv.booted hstep fun ⟨hev, hs⟩ => by
      simp [hev, hs] at hone
    exact (ih (invariantKept s u hinv hstep) hrest (by omega)).trans hfirst

/-! ### The statements of reset and hazards -/

/-- Settles O44: the count at the start and the TCLKs of the window stay below two periods together, and one event
without a pending request is no overrun. -/
theorem shortWindowLosesNoTick : Obligations.ShortWindowLosesNoTick := by
  intro k s t hinv hm hrun hshort
  obtain ⟨-, -, hcount, -⟩ := exactPeriod k s t hinv hm hrun
  obtain ⟨-, hlt⟩ := hinv.counting hm
  have hone : countAlong raisesEvent k s ≤ 1 := by
    rw [hcount]
    exact Nat.le_of_lt_succ (Nat.div_lt_of_lt_mul (by omega))
  exact ⟨hone, fun hpend => ovr_of_run_of_le_one hinv hrun (by simpa [hpend] using hone)⟩

/-- Settles O11: the turn is RESET's, and its state is `State.resetOf` with the schedule going on. The name `resetStep` is
the model's own function. -/
theorem resetStep_holds : Obligations.ResetStep := by
  intro s rest hp hb hagenda
  refine ⟨resetStep (s.withAgenda rest), ?_, rfl, rfl, fun p => ?_, fun p => ?_, rfl, rfl, rfl, rfl, rfl, rfl, rfl, rfl,
    rfl, rfl, rfl, rfl, rfl, rfl, rfl, rfl, rfl⟩
  · rw [step_eq_beforeReset hp hb, nextTurn_of_cons hagenda]
    rfl
  · exact Vector.getElem_replicate p.isLt
  · exact Vector.getElem_replicate p.isLt

/-- Settles O12: a turn without a step leaves the state with the turn taken, and no agent's effect writes `booted`. -/
theorem resetOnlyOnce : Obligations.ResetOnlyOnce := by
  refine ⟨fun s e rest hp hb he hagenda => ?_, fun s rest hp hb hl hagenda => ?_, fun s t => booted_of_step⟩
  · rw [step_eq_beforeReset hp hb, nextTurn_of_cons hagenda, beforeReset_of_ne he]
  · rw [step_eq_perform hp hb hl, nextTurn_of_cons hagenda]
    rfl

end Sys2Proof.Machine

/-!
PROOFS. The spec's own example words (43_host_commands.md, 95_test_vectors.md 2.5): the word of each command decodes to
it, and a refused word is refused by name. First what the decoder answers on a refused word.
-/
namespace Sys2Proof

/-! ### The words that the decoder refuses (R69 steps 1 and 3) -/

theorem decode_of_unmapped {w : Word} (hop : Opcode.ofByte (opField w) = none) : decode w = .error .illegalOpcode := by
  rw [decode, hop]

/-- A word of a mapped opcode with a 1 in a reserved-zero bit is refused (R71). -/
theorem decode_of_reservedBits {w : Word} {op : Opcode} (hop : opField w = op.code)
    (hres : w.extractLsb' op.reservedBits.1 op.reservedBits.2 ≠ 0#op.reservedBits.2) :
    decode w = .error .reservedBits := by
  have hno : w &&& op.maskWord ≠ op.matchWord := mt (match_iff_reservedBits_eq_zero hop).1 hres
  simp [decode, ofByte_eq_some.2 hop, hno]

end Sys2Proof

namespace Sys2Proof.Machine

/-! ### The statement of the example words -/

/-- Settles O3: each accepted word is the one its command encodes to, opcode 0x12 is in no row of the map, and the last
word is a `SETMASK` with a 1 in its reserved bit 16. -/
theorem specWordsDecode : Obligations.SpecWordsDecode := by
  have hillegal : Opcode.ofByte (opField 0x12000000#32) = none := by decide
  have hsetmask : opField 0x11010000#32 = Opcode.setmask.code := by decide
  have hreserved : (0x11010000#32).extractLsb' 8 16 ≠ 0#16 := by decide
  exact ⟨decode_of_encode_eq rfl, decode_of_encode_eq rfl, decode_of_encode_eq rfl, decode_of_encode_eq rfl,
    decode_of_encode_eq rfl, decode_of_encode_eq rfl, decode_of_encode_eq rfl, decode_of_encode_eq rfl,
    decode_of_unmapped hillegal, decode_of_reservedBits hsetmask hreserved⟩

end Sys2Proof.Machine
